-- ==== Sys2Proof/Word.lean ====
section
/-! DEFINITION. The widths the manual gives its bytes, words, addresses and sets ("Conventions" of 00_scope.md). -/

namespace Sys2Proof

/-- One byte: a memory byte, a frame byte, a management port byte, or a sequence number, whose arithmetic is modulo 256. -/
abbrev Byte := BitVec 8

/-- A word address, 0 to 4,194,303 (R150). -/
abbrev WordAddr := BitVec 22

/-- A line number, 0 to 262,143. -/
abbrev LineNo := BitVec 18

/-- A byte address of the 16 MiB space, as a window base holds it (R1). -/
abbrev ByteAddr := BitVec 24

/-- A lane mask: bit i is lane i, the byte at byte address 4 × word address + i (R150). -/
abbrev Lanes := BitVec 4

/-- The four bytes of a word in lane order: index i is lane i. -/
abbrev WordData := Vector Byte 4

/-- A window number, W0 to W7. -/
abbrev WindowId := Fin 8

/-- A checkpoint slot number. -/
abbrev SlotId := Fin 4

/-- A set of causes: bit n is the cause with position n (R181). -/
abbrev CauseSet := BitVec 16

/-- A set of track numbers: bit t is track t (R108, R182). -/
abbrev TrackMap := BitVec 64

/-- A statistics counter, which wraps from FFFFFFFFh to 0 (R174). -/
abbrev Counter := BitVec 32

end Sys2Proof
end

