-- ==== Sys2Proof/Syntax.lean ====
section
/-! DEFINITION. The commands and events that reach the part, one constructor of `Instr` for each row of
spec/opcode_table.json, and the data they carry.  A management command carries its parameter bytes as they are shifted
(R181, R182), so that a value out of range can be given and is refused by the command's own rule. -/

namespace Sys2Proof

/-- The kind of a word bus access (R150). -/
inductive AccessKind
  | read
  | write
  deriving DecidableEq, Repr

/-- A word bus access (R150).  For a READ the lane mask and the data are ignored. -/
structure Access where
  kind : AccessKind
  addr : WordAddr
  lanes : Lanes
  data : WordData
  deriving DecidableEq, Repr

/-- The reason a DENY carries (R179). -/
inductive DenyReason
  | roleConflict
  | noRole
  | roleChanging
  deriving DecidableEq, Repr

/-- The reason a PART carries (R179). -/
inductive PartReason
  | disabled
  | roleChange
  deriving DecidableEq, Repr

/-- The record a REC frame carries (R37, R91, R180).  The bytes of a WRITE are pairs of byte position in the line and
value, in ascending position: the positions are the byte mask.  A FILL holds the 64 bytes of its line in ascending order. -/
inductive Record
  | write (line : LineNo) (bytes : List (Nat × Byte))
  | fill (line : LineNo) (data : List Byte)
  | mark (tag : Byte) (slot : Byte)
  | takeover
  deriving DecidableEq, Repr

/-- A mirror link frame by its fields (R179). -/
inductive Frame
  | join (session : Byte)
  | accept (session : Byte)
  | deny (session : Byte) (reason : DenyReason)
  | part (reason : PartReason)
  | closed
  | record (tseq : Byte) (r : Record)
  | ack (aseq : Byte) (final hold swap : Bool)
  | resend (aseq rseq : Byte) (hold : Bool)
  | ask
  deriving DecidableEq, Repr

/-- How a received body comes to be discarded (R50, R178). -/
inductive DiscardCause
  /-- The body was closed by FE and fails a test of R50. -/
  | failedTest (body : List Byte)
  /-- A second FS came while the body was open. -/
  | secondStart
  /-- An IDL or a coding violation came while the body was open. -/
  | brokenOff
  deriving DecidableEq, Repr

/-- The commands and events of the part, one for each row of spec/opcode_table.json. -/
inductive Instr
  | upstreamPresentation (a : Access)
  | arbiterGrant
  | downstreamCompletion
  | applyTakeRecord
  | stallLimitExpiry
  | rejoinDelayExpiry
  | replyTimerExpiry
  | quietTimerExpiry
  | silenceTimerExpiry
  | handoverTimerExpiry
  | recDecision
  | frameTransmissionEnd
  | frameDiscard (how : DiscardCause)
  | joinReceived (session : Byte)
  | acceptReceived (session : Byte)
  | denyReceived (session : Byte) (reason : DenyReason)
  | partReceived (reason : PartReason)
  | closedReceived
  | recReceived (tseq : Byte) (r : Record)
  | ackReceived (aseq : Byte) (final hold swap : Bool)
  | resendReceived (aseq rseq : Byte) (hold : Bool)
  | askReceived
  | readStatus
  | readCauses
  | clearCauses (named : CauseSet)
  | writeCauseMask (newMask : CauseSet)
  | readCauseMask
  | readWindow (number : Byte)
  | writeWindow (number mode : Byte) (base : ByteAddr) (sizeExp policy : Byte)
  | readTrackMap (number : Byte)
  | markWindow (number first last : Byte)
  | setRole (target : Byte)
  | promote (force : Byte)
  | handover
  | linkControlEnable (operation : Byte)
  | linkControlDisable (operation : Byte)
  | writeLinkParameters (window reply retries quiet rejoin : Byte)
  | readLinkParameters
  | readLinkState
  | checkpoint (tag : Byte)
  | readCheckpoints
  | releaseCheckpoint (slot : Byte)
  | readJournalSummary
  | readStatistics (selector clear : Byte)
  | writePathParameters (stall : BitVec 16) (fairness reserve handoverTime : Byte)
  | readPathParameters
  | readIdentification
  | softReset
  | framing (code : Option Byte)
  | unknown (code : Byte)
  | resetPin
  | resetRelease (csLow : Bool)
  deriving DecidableEq, Repr

end Sys2Proof
end

