-- ==== Sys2Proof/Decode.lean ====
section
/-! DEFINITION. What crosses the pins, read and written: the check value, the bodies of the mirror link (R50, R179, R180) and
the transfers of the management port (R162, R163, R182).  spec/opcode_table.json gives none of its rows bits, so
`decodeTableWord` spells no command. -/

namespace Sys2Proof

/-! ## The check value (R179) -/

/-- One bit into the CRC-16 register: polynomial 1021h, most significant bit first. -/
def crcBit (c : BitVec 16) (b : Bool) : BitVec 16 :=
  if (c.msb ^^ b) then (c <<< 1) ^^^ 0x1021#16 else c <<< 1

/-- One byte into the CRC-16 register, most significant bit first (R179). -/
def crcByte (c : BitVec 16) (x : Byte) : BitVec 16 :=
  [7, 6, 5, 4, 3, 2, 1, 0].foldl (fun c i => crcBit c (x.getLsbD i)) c

/-- The check value of a run of bytes: the register starts at FFFFh (R179). -/
def crc16 (bytes : List Byte) : BitVec 16 := bytes.foldl crcByte 0xFFFF#16

/-- The two bytes of a 16-bit number, most significant first (R179, R181). -/
def bytesOf16 (x : BitVec 16) : List Byte := [x.extractLsb' 8 8, x.extractLsb' 0 8]

/-- The three bytes of a 24-bit number, most significant first (R181). -/
def bytesOf24 (x : BitVec 24) : List Byte := [x.extractLsb' 16 8, x.extractLsb' 8 8, x.extractLsb' 0 8]

/-- The four bytes of a 32-bit number, most significant first (R181). -/
def bytesOf32 (x : BitVec 32) : List Byte :=
  [x.extractLsb' 24 8, x.extractLsb' 16 8, x.extractLsb' 8 8, x.extractLsb' 0 8]

/-- The eight bytes of a 64-bit number, most significant first (R180, R182). -/
def bytesOf64 (x : BitVec 64) : List Byte :=
  [x.extractLsb' 56 8, x.extractLsb' 48 8, x.extractLsb' 40 8, x.extractLsb' 32 8,
   x.extractLsb' 24 8, x.extractLsb' 16 8, x.extractLsb' 8 8, x.extractLsb' 0 8]

/-- A body closed by its check value (R179). -/
def closeBody (fields : List Byte) : List Byte := fields ++ bytesOf16 (crc16 fields)

/-! ## Records (R180) -/

/-- The byte positions of a mask, ascending. -/
def maskPositions (mask : BitVec 64) : List Nat := (List.range 64).filter fun i => mask.getLsbD i

/-- The mask of a WRITE record's bytes: bit b stands for byte b of the line. -/
def byteMask (bytes : List (Nat × Byte)) : BitVec 64 :=
  bytes.foldl (fun m c => m ||| BitVec.twoPow 64 c.1) 0#64

/-- Positions that rise strictly from `low` and stay below 64. -/
def positionsRise : Nat → List (Nat × Byte) → Bool
  | _, [] => true
  | low, c :: rest => decide (low ≤ c.1) && decide (c.1 < 64) && positionsRise (c.1 + 1) rest

/-- A record as a valid REC can carry it: a WRITE has 1 to 64 bytes of the line, each position once and in ascending order;
a FILL has the 64 bytes of its line (R180). -/
def Record.valid : Record → Bool
  | .write _ bytes => !bytes.isEmpty && positionsRise 0 bytes
  | .fill _ data => data.length == 64
  | .mark _ _ => true
  | .takeover => true

/-- The line field: a 24-bit number whose six upper bits are sent as 0. -/
def lineBytes (line : LineNo) : List Byte := bytesOf24 (line.setWidth 24)

/-- The record type byte and the record fields of a REC (R179, R180). -/
def Record.fields : Record → List Byte
  | .write line bytes => 0x01#8 :: (lineBytes line ++ bytesOf64 (byteMask bytes) ++ bytes.map Prod.snd)
  | .fill line data => 0x02#8 :: (lineBytes line ++ data)
  | .mark tag slot => [0x03#8, tag, slot]
  | .takeover => [0x04#8]

/-- The line number of a received line field: the lower 18 of its 24 bits (R180). -/
def lineOf (b2 b1 b0 : Byte) : LineNo := (b2 ++ b1 ++ b0).setWidth 18

/-- A record read from its type byte and fields; none where the type is undefined or the length is not the type's (R50, R180). -/
def decodeRecord (type : Byte) (fields : List Byte) : Option Record :=
  if type = 0x01#8 then
    match fields with
    | l2 :: l1 :: l0 :: m7 :: m6 :: m5 :: m4 :: m3 :: m2 :: m1 :: m0 :: data =>
      let positions := maskPositions (m7 ++ m6 ++ m5 ++ m4 ++ m3 ++ m2 ++ m1 ++ m0)
      if positions ≠ [] ∧ data.length = positions.length then
        some (.write (lineOf l2 l1 l0) (positions.zip data))
      else none
    | _ => none
  else if type = 0x02#8 then
    match fields with
    | l2 :: l1 :: l0 :: data => if data.length = 64 then some (.fill (lineOf l2 l1 l0) data) else none
    | _ => none
  else if type = 0x03#8 then
    match fields with
    | [tag, slot] => some (.mark tag slot)
    | _ => none
  else if type = 0x04#8 then
    match fields with
    | [] => some .takeover
    | _ => none
  else none

/-! ## Frame bodies (R179) -/

/-- The code of a DENY reason. -/
def DenyReason.code : DenyReason → Byte
  | .roleConflict => 0x01#8
  | .noRole => 0x02#8
  | .roleChanging => 0x03#8

/-- The code of a PART reason. -/
def PartReason.code : PartReason → Byte
  | .disabled => 0x01#8
  | .roleChange => 0x02#8

/-- A DENY reason from its code; any other value makes the body invalid. -/
def denyReasonOf (b : Byte) : Option DenyReason :=
  if b = 0x01#8 then some .roleConflict else if b = 0x02#8 then some .noRole
  else if b = 0x03#8 then some .roleChanging else none

/-- A PART reason from its code; any other value makes the body invalid. -/
def partReasonOf (b : Byte) : Option PartReason :=
  if b = 0x01#8 then some .disabled else if b = 0x02#8 then some .roleChange else none

/-- The flags byte: FINAL is bit 0, HOLD bit 1, SWAP bit 2; the rest are sent as 0. -/
def flagsByte (final hold swap : Bool) : Byte :=
  (BitVec.ofBool final).setWidth 8 ||| ((BitVec.ofBool hold).setWidth 8 <<< 1) ||| ((BitVec.ofBool swap).setWidth 8 <<< 2)

/-- The kind byte, the flags byte and the fields of a frame, before its check value (R179). -/
def Frame.fields : Frame → List Byte
  | .join session => [0x11#8, 0#8, session, 0x01#8]
  | .accept session => [0x12#8, 0#8, session]
  | .deny session reason => [0x13#8, 0#8, session, reason.code]
  | .part reason => [0x14#8, 0#8, reason.code]
  | .closed => [0x15#8, 0#8]
  | .record tseq r => [0x21#8, 0#8, tseq] ++ r.fields
  | .ack aseq final hold swap => [0x22#8, flagsByte final hold swap, aseq]
  | .resend aseq rseq hold => [0x23#8, flagsByte false hold false, aseq, rseq]
  | .ask => [0x24#8, 0#8]

/-- The whole body of a frame, check value included. -/
def Frame.body (f : Frame) : List Byte := closeBody f.fields

/-- The event that a frame is at the part that receives it. -/
def Frame.received : Frame → Instr
  | .join session => .joinReceived session
  | .accept session => .acceptReceived session
  | .deny session reason => .denyReceived session reason
  | .part reason => .partReceived reason
  | .closed => .closedReceived
  | .record tseq r => .recReceived tseq r
  | .ack aseq final hold swap => .ackReceived aseq final hold swap
  | .resend aseq rseq hold => .resendReceived aseq rseq hold
  | .ask => .askReceived

/-- The frame of a kind byte, a flags byte and the fields; none where the kind, the length or a coded field is not defined.
Undefined flags are ignored (R50, R179). -/
def decodeFields (kind flags : Byte) (fields : List Byte) : Option Frame :=
  if kind = 0x11#8 then
    match fields with
    | [session, role] => if role = 0x01#8 then some (.join session) else none
    | _ => none
  else if kind = 0x12#8 then
    match fields with
    | [session] => some (.accept session)
    | _ => none
  else if kind = 0x13#8 then
    match fields with
    | [session, reason] => (denyReasonOf reason).map (.deny session)
    | _ => none
  else if kind = 0x14#8 then
    match fields with
    | [reason] => (partReasonOf reason).map .part
    | _ => none
  else if kind = 0x15#8 then
    match fields with
    | [] => some .closed
    | _ => none
  else if kind = 0x21#8 then
    match fields with
    | tseq :: type :: rest => (decodeRecord type rest).map (.record tseq)
    | _ => none
  else if kind = 0x22#8 then
    match fields with
    | [aseq] => some (.ack aseq (flags.getLsbD 0) (flags.getLsbD 1) (flags.getLsbD 2))
    | _ => none
  else if kind = 0x23#8 then
    match fields with
    | [aseq, rseq] => some (.resend aseq rseq (flags.getLsbD 1))
    | _ => none
  else if kind = 0x24#8 then
    match fields with
    | [] => some .ask
    | _ => none
  else none

/-- The frame of a received body: none where the body is not valid (R50). -/
def decodeBody (body : List Byte) : Option Frame :=
  let fields := body.take (body.length - 2)
  if 4 ≤ body.length ∧ body.length ≤ 81 ∧ body = closeBody fields then
    match fields with
    | kind :: flags :: rest => decodeFields kind flags rest
    | _ => none
  else none

/-! ## Management port transfers (R162, R163, R182) -/

/-- The parameter bytes and the data-out bytes of a command code; none for an unknown code.  READ STATISTICS gives 24 or 28
data-out bytes; what matters here is that it gives some. -/
def commandShape (code : Byte) : Option (Nat × Nat) :=
  if code = 0x50#8 then some (0, 7) else if code = 0x51#8 then some (0, 2)
  else if code = 0x52#8 then some (2, 0) else if code = 0x53#8 then some (2, 0)
  else if code = 0x54#8 then some (0, 2) else if code = 0x60#8 then some (1, 7)
  else if code = 0x61#8 then some (7, 0) else if code = 0x62#8 then some (1, 14)
  else if code = 0x63#8 then some (3, 0) else if code = 0x70#8 then some (1, 0)
  else if code = 0x71#8 then some (1, 0) else if code = 0x72#8 then some (0, 0)
  else if code = 0x74#8 then some (1, 0) else if code = 0x75#8 then some (5, 0)
  else if code = 0x76#8 then some (0, 5) else if code = 0x77#8 then some (0, 11)
  else if code = 0x80#8 then some (1, 0) else if code = 0x81#8 then some (0, 8)
  else if code = 0x82#8 then some (1, 0) else if code = 0x84#8 then some (0, 8)
  else if code = 0x88#8 then some (2, 28) else if code = 0x8A#8 then some (5, 0)
  else if code = 0x8B#8 then some (0, 5) else if code = 0xE0#8 then some (0, 8)
  else if code = 0xF0#8 then some (0, 0) else none

/-- The command of a code byte and its parameter bytes (R182).  Bytes after the last parameter are ignored (R163).  LINK
CONTROL's enable operation is one row of the table; its disable operation, and every undefined operation, the other. -/
def decodeCommand (code : Byte) (params : List Byte) : Option Instr :=
  if code = 0x50#8 then some .readStatus
  else if code = 0x51#8 then some .readCauses
  else if code = 0x52#8 then
    match params with
    | h :: l :: _ => some (.clearCauses (h ++ l))
    | _ => none
  else if code = 0x53#8 then
    match params with
    | h :: l :: _ => some (.writeCauseMask (h ++ l))
    | _ => none
  else if code = 0x54#8 then some .readCauseMask
  else if code = 0x60#8 then
    match params with
    | n :: _ => some (.readWindow n)
    | _ => none
  else if code = 0x61#8 then
    match params with
    | n :: mode :: b2 :: b1 :: b0 :: k :: policy :: _ => some (.writeWindow n mode (b2 ++ b1 ++ b0) k policy)
    | _ => none
  else if code = 0x62#8 then
    match params with
    | n :: _ => some (.readTrackMap n)
    | _ => none
  else if code = 0x63#8 then
    match params with
    | n :: first :: last :: _ => some (.markWindow n first last)
    | _ => none
  else if code = 0x70#8 then
    match params with
    | target :: _ => some (.setRole target)
    | _ => none
  else if code = 0x71#8 then
    match params with
    | force :: _ => some (.promote force)
    | _ => none
  else if code = 0x72#8 then some .handover
  else if code = 0x74#8 then
    match params with
    | op :: _ => some (if op = 0x01#8 then .linkControlEnable op else .linkControlDisable op)
    | _ => none
  else if code = 0x75#8 then
    match params with
    | w :: r :: l :: q :: j :: _ => some (.writeLinkParameters w r l q j)
    | _ => none
  else if code = 0x76#8 then some .readLinkParameters
  else if code = 0x77#8 then some .readLinkState
  else if code = 0x80#8 then
    match params with
    | tag :: _ => some (.checkpoint tag)
    | _ => none
  else if code = 0x81#8 then some .readCheckpoints
  else if code = 0x82#8 then
    match params with
    | slot :: _ => some (.releaseCheckpoint slot)
    | _ => none
  else if code = 0x84#8 then some .readJournalSummary
  else if code = 0x88#8 then
    match params with
    | selector :: clear :: _ => some (.readStatistics selector clear)
    | _ => none
  else if code = 0x8A#8 then
    match params with
    | h :: l :: fairness :: reserve :: time :: _ => some (.writePathParameters (h ++ l) fairness reserve time)
    | _ => none
  else if code = 0x8B#8 then some .readPathParameters
  else if code = 0xE0#8 then some .readIdentification
  else if code = 0xF0#8 then some .softReset
  else none

/-- What a transfer is when CS# rises, from its whole bytes and whether the rise falls inside a byte: nothing without an SCK
edge, a command, a FRAMING or an UNKNOWN (R163). -/
def decodeTransfer (bytes : List Byte) (insideByte : Bool) : Option Instr :=
  match bytes with
  | [] => if insideByte then some (.framing none) else none
  | code :: params =>
    match commandShape code with
    | none => some (.unknown code)
    | some (nParams, nDataOut) =>
      if nParams ≤ params.length ∧ (nDataOut ≠ 0 ∨ insideByte = false) then decodeCommand code params
      else some (.framing (some code))

/-- The code byte and the parameter bytes of a management command; none for the events that no transfer carries (R182). -/
def transferBytes : Instr → Option (List Byte)
  | .readStatus => some [0x50#8]
  | .readCauses => some [0x51#8]
  | .clearCauses named => some (0x52#8 :: bytesOf16 named)
  | .writeCauseMask newMask => some (0x53#8 :: bytesOf16 newMask)
  | .readCauseMask => some [0x54#8]
  | .readWindow number => some [0x60#8, number]
  | .writeWindow number mode base sizeExp policy => some ([0x61#8, number, mode] ++ bytesOf24 base ++ [sizeExp, policy])
  | .readTrackMap number => some [0x62#8, number]
  | .markWindow number first last => some [0x63#8, number, first, last]
  | .setRole target => some [0x70#8, target]
  | .promote force => some [0x71#8, force]
  | .handover => some [0x72#8]
  | .linkControlEnable operation => some [0x74#8, operation]
  | .linkControlDisable operation => some [0x74#8, operation]
  | .writeLinkParameters window reply retries quiet rejoin => some [0x75#8, window, reply, retries, quiet, rejoin]
  | .readLinkParameters => some [0x76#8]
  | .readLinkState => some [0x77#8]
  | .checkpoint tag => some [0x80#8, tag]
  | .readCheckpoints => some [0x81#8]
  | .releaseCheckpoint slot => some [0x82#8, slot]
  | .readJournalSummary => some [0x84#8]
  | .readStatistics selector clear => some [0x88#8, selector, clear]
  | .writePathParameters stall fairness reserve handoverTime =>
    some (0x8A#8 :: bytesOf16 stall ++ [fairness, reserve, handoverTime])
  | .readPathParameters => some [0x8B#8]
  | .readIdentification => some [0xE0#8]
  | .softReset => some [0xF0#8]
  | .unknown code => some [code]
  | .upstreamPresentation _ | .arbiterGrant | .downstreamCompletion | .applyTakeRecord | .stallLimitExpiry => none
  | .rejoinDelayExpiry | .replyTimerExpiry | .quietTimerExpiry | .silenceTimerExpiry | .handoverTimerExpiry => none
  | .recDecision | .frameTransmissionEnd | .frameDiscard _ | .joinReceived _ | .acceptReceived _ => none
  | .denyReceived _ _ | .partReceived _ | .closedReceived | .recReceived _ _ | .ackReceived _ _ _ _ => none
  | .resendReceived _ _ _ | .askReceived | .framing _ | .resetPin | .resetRelease _ => none

/-- The command a word spells by the bits spec/opcode_table.json gives its rows.  It gives no row any. -/
def decodeTableWord (_nbits _w : Nat) : Option Instr := none

end Sys2Proof
end

