-- ==== Sys2Proof/Config.lean ====
section
/-! DEFINITION. What is fixed for the part ("Principal figures" of 00_scope.md), the byte an unwritten address of the
retentive memory reads as, and the free values: constants without a body, of which nothing can be proved. -/

namespace Sys2Proof.Config

/-- The places of the write journal (R22). -/
abbrev journalEntries : Nat := 64

/-- The places of the apply queue (R91). -/
abbrev queueRecords : Nat := 16

/-- The occupancy at which the hold state becomes HOLD (R100). -/
abbrev holdAt : Nat := 12

/-- The occupancy at which a completion leaves HOLD (R100). -/
abbrev readyAt : Nat := 4

/-- The records applied since the last report that decide an ACK (R98). -/
abbrev ackBatch : Nat := 4

/-- What a byte of the retentive memory reads as while nothing has written it.
DESIGN CHOICE, unsafe: the memory belongs to the controller and the manual gives no first contents (log entry 2). -/
def unwrittenByte : Byte := 0#8

/-- FREE VALUE, safe: whether the downstream write that RESET# abandons has reached memory (R161: the word "holds either
its earlier contents or the written contents").  Log entry 3. -/
opaque abandonedWriteLands : Nat → Bool

/-- FREE VALUE, safe: whether the resync engine's first-read request is withdrawn in the very event in which the free
entries cease to exceed the reserve (R114, R156), or still stands at the next grant, which then performs no read (R31, R159).
Log entry 4. -/
opaque reserveWithdrawsAtOnce : Nat → Bool

end Sys2Proof.Config
end

