-- ==== Sys2Proof/Machine/State.lean ====
section
/-! DEFINITION. The state the manual gives the part, block by block, the retentive memory behind it, the waiting commands,
the reasons a step can stop and the state after RESET#. -/

namespace Sys2Proof.Machine

open Sys2Proof

/-! ## Names of the manual -/

/-- Window mode (R1). -/
inductive WindowMode
  | off
  | mirror
  deriving DecidableEq, Repr

/-- Window policy (R1). -/
inductive Policy
  | stall
  | diverge
  | strict
  deriving DecidableEq, Repr

/-- Sync state of a window (R4); it is derived, never stored. -/
inductive SyncState
  | off
  | passive
  | inSync
  | diverged
  | resyncing
  deriving DecidableEq, Repr

/-- The role of the part (R124). -/
inductive Role
  | unassigned
  | active
  | standby
  | promoting
  | handingOver
  | fenced
  deriving DecidableEq, Repr

/-- The link state (R45). -/
inductive LinkState
  | offline
  | idle
  | joining
  | up
  | recovery
  | leaving
  deriving DecidableEq, Repr

/-- Why the last association ended (R65). -/
inductive LossReason
  | none
  | noReply
  | sequence
  | silence
  | peerPart
  | peerClosed
  | peerRejoin
  | locally
  deriving DecidableEq, Repr

/-- The result of a command (R164). -/
inductive Result
  | ok
  | busy
  | badParam
  | wrongRole
  | linkDown
  | full
  | notInSync
  | framing
  | unknown
  deriving DecidableEq, Repr

/-- The sixteen causes (R167, R181). -/
inductive Cause
  | linkUp
  | linkLost
  | joinDenied
  | roleConflict
  | windowDiverged
  | windowInSync
  | writeRefused
  | stallExpired
  | checkpointDone
  | checkpointFailed
  | handoverDone
  | handoverFailed
  | takenOver
  | promoted
  | fenced
  | mapMismatch
  deriving DecidableEq, Repr

/-- State of a checkpoint slot (R141). -/
inductive SlotState
  | free
  | opened
  | done
  | failed
  deriving DecidableEq, Repr

/-- Why a write is held (R11). -/
inductive HoldReason
  | stall
  | handover
  deriving DecidableEq, Repr

/-! ## The blocks -/

/-- A window of the window table (R1): the size is 4 KiB × 2^sizeExp. -/
structure Window where
  mode : WindowMode
  base : ByteAddr
  sizeExp : Fin 13
  policy : Policy
  deriving DecidableEq, Repr

/-- The upstream access and the held-write slot, which is HELD exactly in the state `held` (R11, R151).  A REQUESTING write
may be forced to diverge (R13). -/
inductive Upstream
  | none
  | requesting (a : Access) (forced : Bool)
  | inProgress (a : Access)
  | held (a : Access) (window : WindowId) (reason : HoldReason)
  deriving DecidableEq, Repr

/-- The ending the upstream bus was last given (R151, R153): DONE, with the word for a READ, or FAULT. -/
inductive Ending
  | done (data : Option WordData)
  | fault
  deriving DecidableEq, Repr

/-- A timer: stopped, or running with the duration it started with.  The stall limit timer's unit is 1 µs, every other
timer's 1 ms.  Expiries are commands of their own (log entry 5). -/
abbrev Timer := Option Nat

/-- The quiet timer, which stays expired after an expiry without effect (R78). -/
inductive QuietTimer
  | stopped
  | running (ms : Nat)
  | expired
  deriving DecidableEq, Repr

/-- What a journal entry carries (R23).  The data of a FILL are the bytes of the words read so far; the window is the one
recorded when the entry was made. -/
inductive Body
  | write (window : WindowId) (line : LineNo) (bytes : List (Nat × Byte))
  | fill (window : WindowId) (line : LineNo) (data : List Byte)
  | mark (tag : Byte) (slot : SlotId)
  | takeover
  deriving DecidableEq, Repr

/-- State of a journal entry; only a SENT entry has a sequence and a send count (R23). -/
inductive EntryState
  | filling
  | pending
  | sent (seq : Byte) (sendCount : Nat)
  deriving DecidableEq, Repr

/-- An entry of the write journal (R23). -/
structure Entry where
  body : Body
  state : EntryState
  deriving DecidableEq, Repr

/-- The link controller (R45, R68): association, transfer and the two directions of the line.  `tx` is the frame being sent,
`txQueue` the frames decided behind it (R49), `rxBody` the body open at the receiver (R178). -/
structure Link where
  state : LinkState
  enable : Bool
  session : Byte
  joinSuspended : Bool
  retry : Nat
  deferredJoin : Option Byte
  acceptRepeat : Bool
  lastLoss : LossReason
  peerPart : Option PartReason
  ackPoint : Byte
  sendPoint : Byte
  cursor : Byte
  peerHold : Bool
  rejoinTimer : Timer
  replyTimer : Timer
  quietTimer : QuietTimer
  tx : Option Frame
  txQueue : List Frame
  rxBody : Option (List Byte)
  deriving DecidableEq, Repr

/-- A record of the apply queue (R91). -/
structure Received where
  tseq : Byte
  record : Record
  deriving DecidableEq, Repr

/-- The apply engine: IDLE, or APPLYING the oldest record of the queue with the position of the next word to write (R95). -/
inductive ApplyEngine
  | idle
  | applying (word : Nat)
  deriving DecidableEq, Repr

/-- The standby side's receive and apply state (R90). -/
structure Standby where
  queue : List Received
  engine : ApplyEngine
  receiveNext : Byte
  appliedNext : Byte
  resendException : Bool
  holding : Bool
  sinceReport : Nat
  silenceTimer : Timer
  deriving DecidableEq, Repr

/-- The resync walk's position (R112). -/
structure Walk where
  window : WindowId
  track : Nat
  offset : Nat
  deriving DecidableEq, Repr

/-- The resync engine (R112).  A WAITING engine's flag says whether it requests the port; a READING engine's FILL under way is
the journal's FILLING entry, and its walk is absent after abandonment. -/
inductive Resync
  | idle
  | waiting (walk : Walk) (requesting : Bool)
  | reading (walk : Option Walk) (wordsRead : Nat)
  deriving DecidableEq, Repr

/-- A checkpoint slot (R141). -/
structure Slot where
  state : SlotState
  tag : Byte
  taint : Bool
  deriving DecidableEq, Repr

/-- Who is told when the downstream access completes (R153); `dropped` is an internal access whose owner is gone: it
completes and nothing is done with it (R32, R105, R160). -/
inductive PortOwner
  | upstream
  | resync
  | apply
  | dropped
  deriving DecidableEq, Repr

/-- The downstream access under way (R153). -/
structure PortAccess where
  owner : PortOwner
  access : Access
  deriving DecidableEq, Repr

/-- The last command result (R164). -/
structure CommandRecord where
  result : Result
  code : Byte
  slot : SlotId
  deriving DecidableEq, Repr

/-- A transfer open at the management port (R162, R163): its whole bytes, the bits of the byte being shifted, whether its command has
taken effect, whether an edge of SCK has come, and the level SDO was last given. -/
structure Transfer where
  bytes : List Byte
  bits : List Bool
  taken : Bool
  clocked : Bool
  sdo : Bool
  deriving DecidableEq, Repr

/-- The management port (R162, R165): no transfer open; waiting for CS# to go high after RESET#; or a transfer open. -/
inductive SpiPort
  | closed
  | waitHigh
  | shifting (x : Transfer)
  deriving DecidableEq, Repr

/-- The five link parameters as their codes (R46, R181). -/
structure LinkParams where
  window : Byte
  reply : Byte
  retries : Byte
  quiet : Byte
  rejoin : Byte
  deriving DecidableEq, Repr

/-- The four path parameters as their codes (R172, R181). -/
structure PathParams where
  stall : BitVec 16
  fairness : Byte
  reserve : Byte
  handoverTime : Byte
  deriving DecidableEq, Repr

/-- The six counters of a window (R20, R121). -/
structure WindowStats where
  captured : Counter
  merged : Counter
  diverged : Counter
  refused : Counter
  held : Counter
  linesCopied : Counter
  deriving DecidableEq, Repr

/-- The seven counters of the link (R88). -/
structure LinkStats where
  sentFirst : Counter
  retransmitted : Counter
  discarded : Counter
  resendReceived : Counter
  resendSent : Counter
  askSent : Counter
  lost : Counter
  deriving DecidableEq, Repr

/-- The whole part, the retentive memory behind it and the commands that wait.
`mem` lists (byte address, byte) pairs in rising order, none equal to `Config.unwrittenByte`.
`freeCount` is the model's own: the number of free values drawn so far. -/
structure State where
  windows : Vector Window 8
  upstream : Upstream
  ending : Option Ending
  stallTimer : Timer
  journal : List Entry
  link : Link
  standby : Standby
  maps : Vector TrackMap 8
  resync : Resync
  role : Role
  handoverTimer : Timer
  keptSwap : Option Byte
  slots : Vector Slot 4
  port : Option PortAccess
  upstreamRun : Nat
  mem : List Host.Cell
  causes : CauseSet
  mask : CauseSet
  lastResult : CommandRecord
  dataOut : List Byte
  spi : SpiPort
  resetLow : Bool
  linkParams : LinkParams
  pathParams : PathParams
  windowStats : Vector WindowStats 8
  linkStats : LinkStats
  freeCount : Nat
  pending : List Instr
  deriving DecidableEq, Repr

/-! ## Stops -/

/-- The faults of the part.  There is none: every word address exists (R150), memory raises no errors (R153), and every
command has its effect in every state.  The type is empty, so no meaning can fault. -/
inductive Fault
  deriving DecidableEq, Repr

/-- The refusals of a step. -/
inductive Refusal
  /-- Raised by `exec` alone, for a row of the table that has no meaning in this model yet.  Safe: the machine stops. -/
  | notModelled (mnemonic : String)
  deriving DecidableEq, Repr

/-! ## After RESET# -/

/-- A window after RESET# (R1). -/
def Window.reset : Window := { mode := .off, base := 0#24, sizeExp := 0, policy := .stall }

/-- A checkpoint slot after either reset (R141). -/
def Slot.reset : Slot := { state := .free, tag := 0#8, taint := false }

/-- The link parameters' defaults: window 8, reply timer 10 ms, retry limit 3, quiet time 200 ms, rejoin delay 100 ms (R46). -/
def LinkParams.reset : LinkParams := { window := 8#8, reply := 10#8, retries := 3#8, quiet := 20#8, rejoin := 10#8 }

/-- The path parameters' defaults: stall limit 100 µs, fairness count 4, resync reserve 8, handover time 500 ms (R172). -/
def PathParams.reset : PathParams := { stall := 100#16, fairness := 4#8, reserve := 8#8, handoverTime := 50#8 }

/-- The counters of a window after RESET# (R174). -/
def WindowStats.reset : WindowStats :=
  { captured := 0#32, merged := 0#32, diverged := 0#32, refused := 0#32, held := 0#32, linesCopied := 0#32 }

/-- The counters of the link after RESET# (R174). -/
def LinkStats.reset : LinkStats :=
  { sentFirst := 0#32, retransmitted := 0#32, discarded := 0#32, resendReceived := 0#32, resendSent := 0#32, askSent := 0#32,
    lost := 0#32 }

/-- The link controller after RESET# (R67). -/
def Link.reset : Link :=
  { state := .offline, enable := false, session := 0#8, joinSuspended := false, retry := 0, deferredJoin := none,
    acceptRepeat := false, lastLoss := .none, peerPart := none, ackPoint := 0#8, sendPoint := 0#8, cursor := 0#8,
    peerHold := false, rejoinTimer := none, replyTimer := none, quietTimer := .stopped, tx := none, txQueue := [],
    rxBody := none }

/-- The standby side after either reset (R106). -/
def Standby.reset : Standby :=
  { queue := [], engine := .idle, receiveNext := 0#8, appliedNext := 0#8, resendException := false, holding := false,
    sinceReport := 0, silenceTimer := none }

/-- The last command result after RESET# (R164). -/
def CommandRecord.reset : CommandRecord := { result := .ok, code := 0#8, slot := 0 }

/-- The part right after RESET#, with RESET# released and CS# high: every field at the value its rule gives.  The memory
lists nothing (log entry 2). -/
def State.reset : State :=
  { windows := Vector.replicate 8 Window.reset, upstream := .none, ending := none, stallTimer := none, journal := [],
    link := Link.reset, standby := Standby.reset, maps := Vector.replicate 8 0#64, resync := .idle, role := .unassigned,
    handoverTimer := none, keptSwap := none, slots := Vector.replicate 4 Slot.reset, port := none, upstreamRun := 0, mem := [],
    causes := 0#16, mask := BitVec.allOnes 16, lastResult := CommandRecord.reset, dataOut := [], spi := .closed,
    resetLow := false, linkParams := LinkParams.reset, pathParams := PathParams.reset,
    windowStats := Vector.replicate 8 WindowStats.reset, linkStats := LinkStats.reset, freeCount := 0, pending := [] }

end Sys2Proof.Machine
end

