-- ==== Sys2Proof/Machine/Flags.lean ====
section
/-! DEFINITION. The cause set, the interrupt output and the statistics counters: every flag an event sets (R5, R167 to R169,
R174). -/

namespace Sys2Proof.Machine

open Sys2Proof

/-- The position of a cause in a 16-bit set (R181). -/
def Cause.position : Cause → Nat
  | .linkUp => 0
  | .linkLost => 1
  | .joinDenied => 2
  | .roleConflict => 3
  | .windowDiverged => 4
  | .windowInSync => 5
  | .writeRefused => 6
  | .stallExpired => 7
  | .checkpointDone => 8
  | .checkpointFailed => 9
  | .handoverDone => 10
  | .handoverFailed => 11
  | .takenOver => 12
  | .promoted => 13
  | .fenced => 14
  | .mapMismatch => 15

/-- The set that holds one cause. -/
def Cause.bit (c : Cause) : CauseSet := BitVec.twoPow 16 c.position

/-- An event makes a cause present; present already, it stays (R167). -/
def setCause (c : Cause) (s : State) : State := { s with causes := s.causes ||| c.bit }

/-- A cause is present. -/
def hasCause (s : State) (c : Cause) : Bool := s.causes.getLsbD c.position

/-- IRQ# is driven low exactly while a cause outside the mask is present, and is released while RESET# is low (R169). -/
def irqAsserted (s : State) : Bool := !s.resetLow && (s.causes &&& ~~~s.mask) != 0#16

/-- Write one window's counters. -/
def withWindowStats (w : WindowId) (x : WindowStats) (s : State) : State :=
  { s with windowStats := s.windowStats.set w x }

/-- One more write captured in a window (R20). -/
def countCaptured (w : WindowId) (s : State) : State :=
  withWindowStats w { s.windowStats[w] with captured := s.windowStats[w].captured + 1 } s

/-- One more write merged in a window (R20). -/
def countMerged (w : WindowId) (s : State) : State :=
  withWindowStats w { s.windowStats[w] with merged := s.windowStats[w].merged + 1 } s

/-- One more write diverged in a window (R20). -/
def countDiverged (w : WindowId) (s : State) : State :=
  withWindowStats w { s.windowStats[w] with diverged := s.windowStats[w].diverged + 1 } s

/-- One more write refused in a window (R20). -/
def countRefused (w : WindowId) (s : State) : State :=
  withWindowStats w { s.windowStats[w] with refused := s.windowStats[w].refused + 1 } s

/-- One more write held in a window (R20). -/
def countHeld (w : WindowId) (s : State) : State :=
  withWindowStats w { s.windowStats[w] with held := s.windowStats[w].held + 1 } s

/-- One more line copied of a window (R121). -/
def countLineCopied (w : WindowId) (s : State) : State :=
  withWindowStats w { s.windowStats[w] with linesCopied := s.windowStats[w].linesCopied + 1 } s

end Sys2Proof.Machine
end

