-- ==== Sys2Proof/Machine/Operands.lean ====
section
/-! DEFINITION. The encodings of the management port: the codes of the enumerated fields, the parameter ranges and the data-out
bytes that do not depend on other operations (R46, R172, R181, R182). -/

namespace Sys2Proof.Machine

open Sys2Proof

/-! ## Codes (R181) -/

/-- Role code. -/
def Role.code : Role → Byte
  | .unassigned => 0x00#8
  | .active => 0x01#8
  | .standby => 0x02#8
  | .promoting => 0x03#8
  | .handingOver => 0x04#8
  | .fenced => 0x05#8

/-- Link state code. -/
def LinkState.code : LinkState → Byte
  | .offline => 0x00#8
  | .idle => 0x01#8
  | .joining => 0x02#8
  | .up => 0x03#8
  | .recovery => 0x04#8
  | .leaving => 0x05#8

/-- Result code. -/
def Result.code : Result → Byte
  | .ok => 0x00#8
  | .busy => 0x01#8
  | .badParam => 0x02#8
  | .wrongRole => 0x03#8
  | .linkDown => 0x04#8
  | .full => 0x05#8
  | .notInSync => 0x06#8
  | .framing => 0x07#8
  | .unknown => 0x08#8

/-- Window mode code. -/
def WindowMode.code : WindowMode → Byte
  | .off => 0x00#8
  | .mirror => 0x01#8

/-- Policy code. -/
def Policy.code : Policy → Byte
  | .stall => 0x00#8
  | .diverge => 0x01#8
  | .strict => 0x02#8

/-- Sync state code. -/
def SyncState.code : SyncState → Byte
  | .off => 0x00#8
  | .passive => 0x01#8
  | .inSync => 0x02#8
  | .diverged => 0x03#8
  | .resyncing => 0x04#8

/-- Loss reason code. -/
def LossReason.code : LossReason → Byte
  | .none => 0x00#8
  | .noReply => 0x01#8
  | .sequence => 0x02#8
  | .silence => 0x03#8
  | .peerPart => 0x04#8
  | .peerClosed => 0x05#8
  | .peerRejoin => 0x06#8
  | .locally => 0x07#8

/-- Peer part reason code. -/
def peerPartCode : Option PartReason → Byte
  | none => 0x00#8
  | some r => r.code

/-- Checkpoint state code. -/
def SlotState.code : SlotState → Byte
  | .free => 0x00#8
  | .opened => 0x01#8
  | .done => 0x02#8
  | .failed => 0x03#8

/-- The held-write slot's code: NONE, HELD STALL or HELD HANDOVER. -/
def heldCode : Upstream → Byte
  | .held _ _ .stall => 0x01#8
  | .held _ _ .handover => 0x02#8
  | .none | .requesting _ _ | .inProgress _ => 0x00#8

/-! ## Parameters -/

/-- A window number from its parameter byte; none above 7. -/
def windowOf (b : Byte) : Option WindowId := if h : b.toNat < 8 then some ⟨b.toNat, h⟩ else none

/-- A window mode from its code. -/
def modeOf (b : Byte) : Option WindowMode :=
  if b = 0x00#8 then some .off else if b = 0x01#8 then some .mirror else none

/-- A policy from its code. -/
def policyOf (b : Byte) : Option Policy :=
  if b = 0x00#8 then some .stall else if b = 0x01#8 then some .diverge else if b = 0x02#8 then some .strict else none

/-- A size exponent; none above 12. -/
def sizeExpOf (b : Byte) : Option (Fin 13) := if h : b.toNat < 13 then some ⟨b.toNat, h⟩ else none

/-- The window a WRITE WINDOW describes; none where a check of its parameters fails (R2): the size exponent, the mode and the
policy are defined, and the base is a multiple of the size. -/
def windowFields (mode : Byte) (base : ByteAddr) (sizeExp policy : Byte) : Option Window :=
  match modeOf mode, sizeExpOf sizeExp, policyOf policy with
  | some m, some k, some p =>
    if base.toNat % 2 ^ (12 + k.val) = 0 then some { mode := m, base := base, sizeExp := k, policy := p } else none
  | _, _, _ => none

/-- The target of SET ROLE; none for any other code (R125). -/
def targetOf (b : Byte) : Option Role :=
  if b = 0x00#8 then some .unassigned else if b = 0x01#8 then some .active else if b = 0x02#8 then some .standby else none

/-- A checkpoint slot number; none above 3 (R146). -/
def slotOf (b : Byte) : Option SlotId := if h : b.toNat < 4 then some ⟨b.toNat, h⟩ else none

/-- The ranges of the link parameters; every quiet time code is in range (R46, R181). -/
def LinkParams.inRange (p : LinkParams) : Bool :=
  decide (1 ≤ p.window.toNat) && decide (p.window.toNat ≤ 32) && decide (1 ≤ p.reply.toNat) &&
  decide (1 ≤ p.retries.toNat) && decide (p.retries.toNat ≤ 15) && decide (1 ≤ p.rejoin.toNat)

/-- The ranges of the path parameters (R172, R181). -/
def PathParams.inRange (p : PathParams) : Bool :=
  decide (1 ≤ p.stall.toNat) && decide (p.stall.toNat ≤ 1023) && decide (1 ≤ p.fairness.toNat) &&
  decide (p.fairness.toNat ≤ 15) && decide (p.reserve.toNat ≤ 32) && decide (1 ≤ p.handoverTime.toNat)

/-! ## Times the parameters name (R181) -/

/-- The reply timer's duration, in ms. -/
def LinkParams.replyMs (p : LinkParams) : Nat := p.reply.toNat

/-- The quiet time, in ms; 0 is off. -/
def LinkParams.quietMs (p : LinkParams) : Nat := 10 * p.quiet.toNat

/-- The silence limit, three times the quiet time, in ms (R46, R102). -/
def LinkParams.silenceMs (p : LinkParams) : Nat := 3 * p.quietMs

/-- The rejoin delay, in ms. -/
def LinkParams.rejoinMs (p : LinkParams) : Nat := 10 * p.rejoin.toNat

/-- The handover time, in ms. -/
def PathParams.handoverMs (p : PathParams) : Nat := 10 * p.handoverTime.toNat

/-! ## Data-out -/

/-- A run of data-out bytes of a refused read (R170, R182). -/
def zeros (n : Nat) : List Byte := List.replicate n 0#8

/-- One bit of a data-out byte. -/
def bitAt (b : Bool) (i : Nat) : Byte := (BitVec.ofBool b).setWidth 8 <<< i

/-- READ LINK PARAMETERS data-out: as the parameters of 75h (R182). -/
def LinkParams.bytes (p : LinkParams) : List Byte := [p.window, p.reply, p.retries, p.quiet, p.rejoin]

/-- READ PATH PARAMETERS data-out: as the parameters of 8Ah (R182). -/
def PathParams.bytes (p : PathParams) : List Byte := bytesOf16 p.stall ++ [p.fairness, p.reserve, p.handoverTime]

/-- READ STATISTICS data-out of a window group (R182). -/
def WindowStats.bytes (x : WindowStats) : List Byte :=
  bytesOf32 x.captured ++ bytesOf32 x.merged ++ bytesOf32 x.diverged ++ bytesOf32 x.refused ++ bytesOf32 x.held ++
  bytesOf32 x.linesCopied

/-- READ STATISTICS data-out of the link group (R182). -/
def LinkStats.bytes (x : LinkStats) : List Byte :=
  bytesOf32 x.sentFirst ++ bytesOf32 x.retransmitted ++ bytesOf32 x.discarded ++ bytesOf32 x.resendReceived ++
  bytesOf32 x.resendSent ++ bytesOf32 x.askSent ++ bytesOf32 x.lost

/-- The two bytes of a slot in READ CHECKPOINTS: bits 1–0 the state, bit 7 the taint, then the tag (R182). -/
def Slot.bytes (x : Slot) : List Byte := [x.state.code ||| bitAt x.taint 7, x.tag]

/-- READ IDENTIFICATION data-out (R173, R182). -/
def identification : List Byte := [0x5A#8, 0x21#8, 0x40#8, 0x01#8, 0x08#8, 0x40#8, 0x10#8, 0x04#8]

end Sys2Proof.Machine
end

