-- ==== Sys2Proof/Machine/Ops.lean ====
section
/-! DEFINITION. The named operations the meanings share: addresses and memory, windows and sync state, the journal, the held
write, the transmitter and the timers, the track maps and the resync engine, the arbiter's requests, and what every event
ends with (`settle`). -/

namespace Sys2Proof.Machine

open Sys2Proof

/-! ## Sequence numbers ("Conventions" of 00_scope.md) -/

/-- x lies in the range a to b. -/
def seqInRange (a b x : Byte) : Bool := decide ((x - a).toNat ≤ (b - a).toNat)

/-- x is before n, with a the range start: x lies in the range a to n and is not n. -/
def seqBefore (a n x : Byte) : Bool := decide ((x - a).toNat < (n - a).toNat)

/-! ## Addresses -/

/-- The byte address of a word (R3). -/
def wordByteAddr (a : WordAddr) : Nat := 4 * a.toNat

/-- The line of a word address: the address divided by 16 (R8). -/
def lineOfWord (a : WordAddr) : LineNo := a.extractLsb' 4 18

/-- The position of a word in its line: the address modulo 16 (R8). -/
def posOfWord (a : WordAddr) : Nat := a.toNat % 16

/-- The word address of a position of a line: 16 times the line number plus the position (R96, R153). -/
def wordOfLine (line : LineNo) (pos : Nat) : WordAddr := BitVec.ofNat 22 (16 * line.toNat + pos)

/-- The byte address of a line (R41). -/
def lineByteAddr (line : LineNo) : Nat := 64 * line.toNat

/-! ## Lists of (key, byte) in rising key order -/

/-- The byte at a key. -/
def Cells.get (k : Nat) : List (Nat × Byte) → Option Byte
  | [] => none
  | c :: rest => if c.1 = k then some c.2 else Cells.get k rest

/-- The byte at a key set, in place. -/
def Cells.put (k : Nat) (v : Byte) : List (Nat × Byte) → List (Nat × Byte)
  | [] => [(k, v)]
  | c :: rest => if k < c.1 then (k, v) :: c :: rest else if k = c.1 then (k, v) :: rest else c :: Cells.put k v rest

/-- The entry of a key removed. -/
def Cells.erase (k : Nat) : List (Nat × Byte) → List (Nat × Byte)
  | [] => []
  | c :: rest => if c.1 = k then rest else c :: Cells.erase k rest

/-! ## The retentive memory (R150, R153) -/

/-- The byte at a byte address. -/
def Memory.read (m : List Host.Cell) (a : Nat) : Byte := (Cells.get a m).getD Config.unwrittenByte

/-- The byte at a byte address written; writing what an unlisted address reads as removes the entry. -/
def Memory.write (m : List Host.Cell) (a : Nat) (b : Byte) : List Host.Cell :=
  if b = Config.unwrittenByte then Cells.erase a m else Cells.put a b m

/-- Addresses rise strictly from `low`, lie in the 16 MiB space, and no entry is what an unlisted address reads as. -/
def Memory.wfFrom : Nat → List Host.Cell → Bool
  | _, [] => true
  | low, c :: rest =>
    decide (low ≤ c.1) && decide (c.1 < 2 ^ 24) && decide (c.2 ≠ Config.unwrittenByte) && Memory.wfFrom (c.1 + 1) rest

/-- The canonical form of the memory. -/
def Memory.wf (m : List Host.Cell) : Bool := Memory.wfFrom 0 m

/-- A WRITE changes exactly the bytes of its lane mask (R150). -/
def Memory.writeWord (m : List Host.Cell) (a : WordAddr) (lanes : Lanes) (data : WordData) : List Host.Cell :=
  ([0, 1, 2, 3] : List (Fin 4)).foldl
    (fun m i => if lanes.getLsbD i.val then Memory.write m (wordByteAddr a + i.val) data[i] else m) m

/-- A READ returns the whole word (R150). -/
def Memory.readWord (m : List Host.Cell) (a : WordAddr) : WordData :=
  Vector.ofFn fun i => Memory.read m (wordByteAddr a + i.val)

/-! ## Windows (R1, R3) -/

/-- All window numbers, ascending. -/
def windowIds : List WindowId := [0, 1, 2, 3, 4, 5, 6, 7]

/-- The size of a window in bytes (R1). -/
def Window.size (w : Window) : Nat := 2 ^ (12 + w.sizeExp.val)

/-- An address lies in the window's range, whatever its mode. -/
def Window.covers (w : Window) (addr : Nat) : Bool := addr / w.size * w.size == w.base.toNat

/-- An address matches a window (R3). -/
def Window.isMatch (w : Window) (addr : Nat) : Bool := w.mode == .mirror && w.covers addr

/-- The owning window of an address: the lowest-numbered that matches it (R3). -/
def owner (ws : Vector Window 8) (addr : Nat) : Option WindowId := windowIds.find? fun i => ws[i].isMatch addr

/-- The track of an address in a window: its distance from the base divided by the track size (R3, R108). -/
def Window.trackOf (w : Window) (addr : Nat) : Nat := (addr - w.base.toNat) / (w.size / 64)

/-- The lines of a track: the track size divided by 64 (R108). -/
def Window.trackLines (w : Window) : Nat := 2 ^ w.sizeExp.val

/-- The owning window of a word address. -/
def ownerOfWord (s : State) (a : WordAddr) : Option WindowId := owner s.windows (wordByteAddr a)

/-! ## Roles and link states -/

/-- The active side of the link is a part whose role is ACTIVE or HANDING_OVER (R45). -/
def Role.activeSide : Role → Bool
  | .active | .handingOver => true
  | .unassigned | .standby | .promoting | .fenced => false

/-- An association exists while the link state is UP or RECOVERY (R45). -/
def LinkState.associated : LinkState → Bool
  | .up | .recovery => true
  | .offline | .idle | .joining | .leaving => false

/-- The link is UP on the standby side. -/
def standbyUp (s : State) : Bool := s.link.state == .up && !s.role.activeSide

/-! ## The journal (R22 to R44) -/

/-- The entry is SENT. -/
def EntryState.isSent : EntryState → Bool
  | .sent _ _ => true
  | .filling | .pending => false

/-- The entry is a SENT entry with this sequence. -/
def EntryState.hasSeq (q : Byte) : EntryState → Bool
  | .sent x _ => x == q
  | .filling | .pending => false

/-- The entry is a SENT entry before `n`, with `a` the range start (R39). -/
def EntryState.isBefore (a n : Byte) : EntryState → Bool
  | .sent x _ => seqBefore a n x
  | .filling | .pending => false

/-- The entry is a TAKEOVER. -/
def Body.isTakeover : Body → Bool
  | .takeover => true
  | .write _ _ _ | .fill _ _ _ | .mark _ _ => false

/-- The entry is a FILL of a window. -/
def Body.isFillOf (w : WindowId) : Body → Bool
  | .fill v _ _ => v == w
  | .write _ _ _ | .mark _ _ | .takeover => false

/-- The number of free entries (R22). -/
def freeEntries (s : State) : Nat := Config.journalEntries - s.journal.length

/-- The number of SENT entries. -/
def sentEntries (s : State) : Nat := s.journal.countP fun e => e.state.isSent

/-- The journal holds a SENT TAKEOVER (R33). -/
def takeoverSent (s : State) : Bool := s.journal.any fun e => e.body.isTakeover && e.state.isSent

/-- The youngest entry, where it is a PENDING TAKEOVER (R33, R134). -/
def takeoverPending (s : State) : Bool :=
  match s.journal.getLast? with
  | some { body := .takeover, state := .pending } => true
  | _ => false

/-- The record that carries an entry (R37): the window number is not carried. -/
def Body.record : Body → Record
  | .write _ line bytes => .write line bytes
  | .fill _ line data => .fill line data
  | .mark tag slot => .mark tag (BitVec.ofNat 8 slot.val)
  | .takeover => .takeover

/-- The bytes a word write carries, as positions of its line: lane i is byte 4o + i (R8). -/
def accessBytes (a : Access) : List (Nat × Byte) :=
  (([0, 1, 2, 3] : List (Fin 4)).filter fun i => a.lanes.getLsbD i.val).map fun i =>
    (4 * posOfWord a.addr + i.val, a.data[i])

/-- Bytes folded into an entry's bytes: each position joins the mask and takes the new value (R29). -/
def mergeBytes (old new : List (Nat × Byte)) : List (Nat × Byte) := new.foldl (fun m c => Cells.put c.1 c.2 m) old

/-- A merge is possible: the youngest entry is a PENDING WRITE of the write's line and owning window (R8, R29). -/
def mergePossible (s : State) (w : WindowId) (line : LineNo) : Bool :=
  match s.journal.getLast? with
  | some { body := .write v l _, state := .pending } => v == w && l == line
  | _ => false

/-- The youngest entry with the write's bytes merged into it (R29). -/
def mergeYoungest (new : List (Nat × Byte)) : List Entry → List Entry
  | [] => []
  | [e] =>
    match e.body with
    | .write w l bytes => [{ e with body := .write w l (mergeBytes bytes new) }]
    | .fill _ _ _ | .mark _ _ | .takeover => [e]
  | e :: rest => e :: mergeYoungest new rest

/-- An entry appended at the young end. -/
def appendEntry (e : Entry) (s : State) : State := { s with journal := s.journal ++ [e] }

/-- A MARK placed: before a PENDING TAKEOVER, else at the young end (R33). -/
def placeMark (e : Entry) (s : State) : State :=
  { s with journal := if takeoverPending s then s.journal.dropLast ++ [e] ++ s.journal.getLast?.toList else s.journal ++ [e] }

/-! ## The upstream access and the held write (R11 to R14, R151) -/

/-- An upstream write is ended with FAULT (R10, R12). -/
def endWithFault (s : State) : State := { s with upstream := .none, ending := some .fault }

/-- Re-presentation: the slot empties, the timer stops and the write requests the port again (R14). -/
def representHeld (s : State) : State :=
  match s.upstream with
  | .held a _ _ => { s with upstream := .requesting a false, stallTimer := none }
  | .none | .requesting _ _ | .inProgress _ => s

/-- Re-presentation of a write held with reason STALL, on a freed journal entry (R14). -/
def representStalled (s : State) : State :=
  match s.upstream with
  | .held a _ .stall => { s with upstream := .requesting a false, stallTimer := none }
  | .held _ _ .handover | .none | .requesting _ _ | .inProgress _ => s

/-- A write held with reason HANDOVER ends with FAULT and counts as refused in its window (R12). -/
def faultHeld (s : State) : State :=
  match s.upstream with
  | .held _ w .handover =>
    setCause .writeRefused (countRefused w { s with upstream := .none, ending := some .fault, stallTimer := none })
  | .held _ _ .stall | .none | .requesting _ _ | .inProgress _ => s

/-! ## The transmitter (R49) -/

/-- A frame is decided: sent at once by a free transmitter, else in its turn. -/
def sendFrame (f : Frame) (s : State) : State :=
  if s.link.tx.isNone && s.link.txQueue.isEmpty then { s with link.tx := some f }
  else { s with link.txQueue := s.link.txQueue ++ [f] }

/-- A CLOSED answer: not queued while an earlier one still waits (R49). -/
def sendClosed (s : State) : State := if s.link.txQueue.contains .closed then s else sendFrame .closed s

/-- A DENY ROLE_CONFLICT, which sets ROLE_CONFLICT (R56, R58). -/
def denyConflict (session : Byte) (s : State) : State :=
  setCause .roleConflict (sendFrame (.deny session .roleConflict) s)

/-! ## Link timers and link state -/

/-- The reply timer starts or restarts with its parameter (R75). -/
def startReply (s : State) : State := { s with link.replyTimer := some s.linkParams.replyMs }

/-- The reply timer stops. -/
def stopReply (s : State) : State := { s with link.replyTimer := none }

/-- The quiet timer restarted, unless the quiet time is 0 (R77). -/
def quietStarted (p : LinkParams) : QuietTimer := if p.quietMs = 0 then .stopped else .running p.quietMs

/-- The silence timer restarted, unless the quiet time is 0 (R102). -/
def silenceStarted (p : LinkParams) : Timer := if p.quietMs = 0 then none else some p.silenceMs

/-- A valid frame has been received in an association: the active side's quiet timer restarts (R77); on the standby side the
silence timer restarts (R102). -/
def heard (s : State) : State :=
  if s.link.state.associated then
    if s.role.activeSide then { s with link.quietTimer := quietStarted s.linkParams }
    else if s.link.state = .up then { s with standby.silenceTimer := silenceStarted s.linkParams }
    else s
  else s

/-- The same for a frame other than JOIN, the first of which clears the accept-repeat flag (R58, R92). -/
def heardOther (s : State) : State :=
  if s.link.state.associated then { heard s with link.acceptRepeat := false } else s

/-- The link enters a state.  A held write is re-presented when it becomes OFFLINE, IDLE, JOINING or LEAVING (R14).  In OFFLINE
no waiting frame is sent and no body stays open (R49, R50). -/
def enterLinkState (st : LinkState) (s : State) : State :=
  let s := { s with link.state := st }
  match st with
  | .up | .recovery => s
  | .idle | .joining | .leaving => representHeld s
  | .offline => representHeld { s with link.txQueue := [], link.rxBody := none }

/-- PART is sent and the link enters LEAVING with the reply timer started afresh (R48, R61). -/
def leaveLink (reason : PartReason) (s : State) : State := startReply (enterLinkState .leaving (sendFrame (.part reason) s))

/-- LEAVING ends: IDLE if the link is enabled, else OFFLINE (R61). -/
def endLeaving (s : State) : State :=
  enterLinkState (if s.link.enable then .idle else .offline) (stopReply s)

/-- An ASK is decided (R80).  DESIGN CHOICE: behind the frames that already wait, in the order decided (R49), where R80 has it go as the
next frame after the one being sent (log entry 28). -/
def sendAsk (s : State) : State := sendFrame .ask { s with linkStats.askSent := s.linkStats.askSent + 1 }

/-- RECOVERY is entered: retry count 1, an ASK decided, the reply timer started (R76, R78). -/
def enterRecovery (s : State) : State := startReply (sendAsk { enterLinkState .recovery s with link.retry := 1 })

/-! ## Track maps (R108 to R111) -/

/-- A track is marked. -/
def markTrack (w : WindowId) (track : Nat) (s : State) : State :=
  { s with maps := s.maps.set w (s.maps[w] ||| BitVec.twoPow 64 track) }

/-- A track is cleared. -/
def clearTrack (w : WindowId) (track : Nat) (s : State) : State :=
  { s with maps := s.maps.set w (s.maps[w] &&& ~~~BitVec.twoPow 64 track) }

/-- The tracks from first to last, inclusive (R122). -/
def trackRange (first last : Nat) : TrackMap := (BitVec.allOnes 64 <<< first) &&& (BitVec.allOnes 64 >>> (63 - last))

/-- Full marking: all 64 tracks of every MIRROR window (R111). -/
def fullMarking (s : State) : State :=
  { s with maps := Vector.ofFn fun i => if s.windows[i].mode = .mirror then BitVec.allOnes 64 else s.maps[i] }

/-- Every track of every window is cleared (R110). -/
def clearMaps (s : State) : State := { s with maps := Vector.replicate 8 0#64 }

/-- The lowest-numbered marked track of a map. -/
def lowestTrack (m : TrackMap) : Option Nat := (List.range 64).find? fun t => m.getLsbD t

/-- The lowest-numbered window with a non-empty map, and its lowest marked track (R113). -/
def firstMarked (maps : Vector TrackMap 8) : Option (WindowId × Nat) :=
  windowIds.findSome? fun w => (lowestTrack maps[w]).map fun t => (w, t)

/-! ## The resync engine (R112 to R118) -/

/-- The walk position. -/
def Resync.walk : Resync → Option Walk
  | .idle => none
  | .waiting w _ => some w
  | .reading w _ => w

/-- The walk is inside a window (R112). -/
def walkInside (s : State) (w : WindowId) : Bool :=
  match s.resync.walk with
  | some p => p.window == w
  | none => false

/-- The engine has a FILL under way (R112). -/
def Resync.filling : Resync → Bool
  | .reading _ _ => true
  | .idle | .waiting _ _ => false

/-- The line being copied: the track's first line plus the offset (R112). -/
def walkLine (s : State) (p : Walk) : LineNo :=
  BitVec.ofNat 18
    (s.windows[p.window].base.toNat / 64 + p.track * s.windows[p.window].trackLines + p.offset)

/-- The window and line of the FILLING entry. -/
def fillingLine (s : State) : Option (WindowId × LineNo) :=
  s.journal.findSome? fun e =>
    match e.body, e.state with
    | .fill w l _, .filling => some (w, l)
    | _, _ => none

/-- The FILLING entry takes a word; after the sixteenth it is PENDING (R32). -/
def takeWord (word : WordData) (last : Bool) (s : State) : State :=
  { s with journal := s.journal.map fun e =>
      match e.body, e.state with
      | .fill w l data, .filling =>
        { body := .fill w l (data ++ word.toList), state := if last then .pending else .filling }
      | _, _ => e }

/-- The engine may run: the role is ACTIVE and the link UP (R113). -/
def resyncMayRun (s : State) : Bool := s.role == .active && s.link.state == .up

/-- A downstream access of an owner that is gone completes without effect (R32, R105). -/
def dropAccess (o : PortOwner) (s : State) : State :=
  match s.port with
  | some p => if p.owner = o then { s with port := some { p with owner := .dropped } } else s
  | none => s

/-- The engine stops: the track of the walk is marked again, position and request go, a read in progress is discarded (R117). -/
def resyncStop (s : State) : State :=
  let s := match s.resync.walk with
    | some p => markTrack p.window p.track s
    | none => s
  dropAccess .resync { s with resync := .idle }

/-- The walk inside a window turned OFF is abandoned (R118): a FILL under way goes on without a position. -/
def abandonWalk (w : WindowId) (s : State) : State :=
  if walkInside s w then
    match s.resync with
    | .reading _ n => { s with resync := .reading none n }
    | .waiting _ _ | .idle => { s with resync := .idle }
  else s

/-! ## Records at the standby (R91, R96) -/

/-- The lanes of a word of a record: byte 4o + i of a WRITE's mask is lane i; a FILL has all four (R96). -/
def recordLanes (r : Record) (o : Nat) : Lanes :=
  match r with
  | .write _ bytes =>
    BitVec.ofFnLE fun i : Fin 4 => (Cells.get (4 * o + i.val) bytes).isSome
  | .fill _ _ => BitVec.allOnes 4
  | .mark _ _ | .takeover => 0#4

/-- The bytes of a word of a record. -/
def recordWord (r : Record) (o : Nat) : WordData :=
  match r with
  | .write _ bytes => Vector.ofFn fun i : Fin 4 => (Cells.get (4 * o + i.val) bytes).getD 0#8
  | .fill _ data => Vector.ofFn fun i : Fin 4 => data.getD (4 * o + i.val) 0#8
  | .mark _ _ | .takeover => Vector.replicate 4 0#8

/-- The line of a WRITE or FILL record. -/
def recordLine : Record → Option LineNo
  | .write l _ | .fill l _ => some l
  | .mark _ _ | .takeover => none

/-- The first word position at or after `start` that the record writes (R96). -/
def nextWord (r : Record) (start : Nat) : Option Nat :=
  (List.range 16).find? fun o => decide (start ≤ o) && recordLanes r o != 0#4

/-- The word write the apply engine has to make. -/
def applyAccess (s : State) : Option Access :=
  match s.standby.engine, s.standby.queue with
  | .applying o, r :: _ =>
    (recordLine r.record).map fun l =>
      { kind := .write, addr := wordOfLine l o, lanes := recordLanes r.record o, data := recordWord r.record o }
  | _, _ => none

/-! ## Requests to the arbiter (R155) -/

/-- What the internal requester asks the port for. -/
inductive InternalRequest
  | firstRead (p : Walk)
  | nextRead (line : LineNo) (word : Nat)
  | applyWord (tseq : Byte) (word : Nat)
  deriving DecidableEq, Repr

/-- The port carries an access of this owner. -/
def portOwnedBy (s : State) (o : PortOwner) : Bool :=
  match s.port with
  | some p => p.owner == o
  | none => false

/-- A resync read whose value will be discarded is still in progress (R117). -/
def discardedRead (s : State) : Bool :=
  match s.port with
  | some p => p.owner == .dropped && p.access.kind == .read
  | none => false

/-- The request of the internal requester: the resync reader on an ACTIVE part, the apply writer on a STANDBY or PROMOTING one
(R155).  A READING engine asks for its next word while no read of its own is in progress (R115). -/
def internalRequest (s : State) : Option InternalRequest :=
  match s.role with
  | .active =>
    match s.resync with
    | .idle => none
    | .waiting p requesting => if requesting then some (.firstRead p) else none
    | .reading _ n =>
      if portOwnedBy s .resync then none else (fillingLine s).map fun f => .nextRead f.2 n
  | .standby | .promoting =>
    match s.standby.engine, s.standby.queue with
    | .applying o, r :: _ => if portOwnedBy s .apply then none else some (.applyWord r.tseq o)
    | _, _ => none
  | .unassigned | .handingOver | .fenced => none

/-! ## Sync state (R4, R5) -/

/-- The journal holds a FILL or FILLING entry of the window. -/
def hasFill (s : State) (w : WindowId) : Bool := s.journal.any fun e => e.body.isFillOf w

/-- The sync state of a window, from its inputs as they stand (R4). -/
def syncState (s : State) (w : WindowId) : SyncState :=
  if s.windows[w].mode = .off then .off
  else if s.role.activeSide = false then .passive
  else if s.maps[w] = 0#64 ∧ hasFill s w = false ∧ walkInside s w = false then .inSync
  else if s.link.state.associated then .resyncing
  else .diverged

/-- The causes of one window's move from one sync state to another (R5). -/
def noteMove (old new : SyncState) (s : State) : State :=
  if new = .inSync ∧ old ≠ .inSync then setCause .windowInSync s
  else if old = .inSync ∧ (new = .diverged ∨ new = .resyncing) then setCause .windowDiverged s
  else s

/-- The causes of every window's move since `before` (R5). -/
def noteSync (before s : State) : State :=
  windowIds.foldl (fun t w => noteMove (syncState before w) (syncState s w) t) s

/-- Every MIRROR window reads IN_SYNC (R131, R142). -/
def allInSync (s : State) : Bool :=
  windowIds.all fun w => s.windows[w].mode == .off || syncState s w == .inSync

/-! ## Joining (R52) -/

/-- The conditions under which an active side joins. -/
def joinConditions (s : State) : Bool :=
  s.role == .active && s.link.enable && s.link.state == .idle && !s.link.joinSuspended

/-- The rejoin delay timer starts when the conditions come to hold and stops when one breaks. -/
def settleRejoin (s : State) : State :=
  { s with link.rejoinTimer :=
      if joinConditions s then some (s.link.rejoinTimer.getD s.linkParams.rejoinMs) else none }

/-! ## What every event ends with -/

/-- An IDLE engine that may run starts the lowest marked track in the same event (R113). -/
def startTrack (s : State) : State :=
  if s.resync = .idle ∧ resyncMayRun s = true then
    match firstMarked s.maps with
    | some (w, t) => { clearTrack w t s with resync := .waiting { window := w, track := t, offset := 0 } false }
    | none => s
  else s

/-- The first-read request of a WAITING engine (R31, R114): made while it may run, no discarded read is still in progress
and the free entries exceed the reserve; withdrawn when it may not run.  Where entries taken in this event leave the reserve
no longer exceeded, a free value says whether it is withdrawn now or judged at the grant (log entry 4).  DESIGN CHOICE: a
reserve set by WRITE PATH PARAMETERS, lowered or raised, counts here from that event on, for a request not yet made and for the
withdrawal by entries taken, though R31 and R172 have a new value apply from the next grant to the resync reader (log entry 27). -/
def settleRequest (before s : State) : State :=
  match s.resync with
  | .waiting p requesting =>
    if resyncMayRun s = false then { s with resync := .waiting p false }
    else if requesting then
      if freeEntries s < freeEntries before ∧ freeEntries s ≤ s.pathParams.reserve.toNat then
        { s with resync := .waiting p (!Config.reserveWithdrawsAtOnce s.freeCount), freeCount := s.freeCount + 1 }
      else s
    else if s.pathParams.reserve.toNat < freeEntries s ∧ discardedRead s = false then
      { s with resync := .waiting p true }
    else s
  | .idle | .reading _ _ => s

/-- The upstream run becomes 0 when the internal requester's request goes, granted or withdrawn (R156). -/
def settleRun (before s : State) : State :=
  if (internalRequest before).isSome ∧ internalRequest s ≠ internalRequest before then { s with upstreamRun := 0 } else s

/-- What an event ends with: the resync engine's start and request, the upstream run, the rejoin delay and the causes of the
windows' moves, judged from the state the event began in. -/
def settle (before s : State) : State :=
  noteSync before (settleRejoin (settleRun before (settleRequest before (startTrack s))))

/-- An event of a part whose RESET# is high.  While RESET# is low the part stays as reset, and nothing reaches it (R161, R165). -/
def whenLive (f : State → State) (s : State) : Host.Outcome State Fault Refusal :=
  .next (if s.resetLow then s else f s)

/-- The same, with what an event ends with. -/
def whenLiveSettled (f : State → State) (s : State) : Host.Outcome State Fault Refusal :=
  whenLive (fun s => settle s (f s)) s

end Sys2Proof.Machine
end

