-- ==== Sys2Proof/Machine/Procedures.lean ====
section
/-! DEFINITION. The procedures that several events run: the journal's flush and its removals, changes of role, the two link-loss
procedures, entry to UP, the answer to JOIN, the application of a record, the takeover, the end of a promotion and of a handover. -/

namespace Sys2Proof.Machine

open Sys2Proof

/-! ## Checkpoint slots (R141 to R145) -/

/-- A slot reaches an outcome, its tag and taint kept. -/
def decideSlot (i : SlotId) (st : SlotState) (s : State) : State :=
  { s with slots := s.slots.set i { s.slots[i] with state := st } }

/-- The taint flag of every OPEN slot is set (R9, R143). -/
def taintOpen (s : State) : State :=
  { s with slots := s.slots.map fun x => if x.state = .opened then { x with taint := true } else x }

/-- The lowest-numbered FREE slot (R142). -/
def lowestFreeSlot (s : State) : Option SlotId :=
  ([0, 1, 2, 3] : List SlotId).find? fun i => s.slots[i].state == .free

/-! ## Flush (R41) -/

/-- A flushed line marks its track where its window is MIRROR and its range contains the line. -/
def flushLine (w : WindowId) (line : LineNo) (s : State) : State :=
  if s.windows[w].isMatch (lineByteAddr line) then
    markTrack w (s.windows[w].trackOf (lineByteAddr line)) s
  else s

/-- What the flush does with one entry; a TAKEOVER is the role controller's (R135). -/
def flushEntry (s : State) (e : Entry) : State :=
  match e.body with
  | .write w line _ | .fill w line _ => flushLine w line s
  | .mark _ slot => setCause .checkpointFailed (decideSlot slot .failed s)
  | .takeover => s

/-- The flush: every entry, oldest first, then the journal is empty. -/
def flush (s : State) : State := { s.journal.foldl flushEntry s with journal := [] }

/-! ## Changes of role (R124) -/

/-- A deferred JOIN is answered at a change of role (R57). -/
def answerDeferred (s : State) : State :=
  match s.link.deferredJoin, s.role with
  | some session, .promoting => sendFrame (.deny session .roleChanging) { s with link.deferredJoin := none }
  | some session, .unassigned => sendFrame (.deny session .noRole) { s with link.deferredJoin := none }
  | some session, .active => denyConflict session { s with link.deferredJoin := none }
  | _, _ => s

/-- The resync engine stops when the role leaves ACTIVE (R117). -/
def stopOnLeavingActive (new : Role) (s : State) : State :=
  if s.role = .active ∧ new ≠ .active then resyncStop s else s

/-- Maps and journal are emptied when the role leaves ACTIVE and HANDING_OVER (R43, R110). -/
def emptyOnLeavingSide (new : Role) (s : State) : State :=
  if s.role.activeSide = true ∧ new.activeSide = false then { clearMaps s with journal := [] } else s

/-- A change of role, in one event: the role controller tells every block (R124).  A held write is re-presented (R14), unless
its handover's outcome has faulted it before; join-suspended is cleared (R55), the kept SWAP ASEQ goes (R138) and a deferred
JOIN is answered (R57). -/
def changeRole (new : Role) (s : State) : State :=
  let s := emptyOnLeavingSide new (stopOnLeavingActive new s)
  answerDeferred (representHeld { s with role := new, link.joinSuspended := false, keptSwap := none })

/-- Entry into ACTIVE with full marking (R111, R126, R130). -/
def becomeActiveMarked (s : State) : State := fullMarking (changeRole .active s)

/-- A promotion completes (R130). -/
def completePromotion (s : State) : State := setCause .promoted (becomeActiveMarked s)

/-! ## The end of an association (R63 to R65) -/

/-- The loss is recorded, LINK_LOST is set and counted (R63, R64, R65). -/
def recordLoss (reason : LossReason) (peer : Option PartReason) (s : State) : State :=
  setCause .linkLost
    { s with link.lastLoss := reason, link.peerPart := peer, linkStats.lost := s.linkStats.lost + 1 }

/-- The role controller decides a handover in progress at a loss: FENCED after a SENT TAKEOVER, else ACTIVE (R135). -/
def decideHandover (sent : Bool) (s : State) : State :=
  if s.role = .handingOver then
    if sent then
      setCause .fenced (setCause .handoverFailed (changeRole .fenced { faultHeld s with handoverTimer := none }))
    else setCause .handoverFailed (changeRole .active { s with handoverTimer := none })
  else s

/-- Parts 1 to 6 of the active side's link-loss procedure (R63).  The windows' moves at the flush set their causes before the
role controller decides (R41, R135). -/
def activeLoss (reason : LossReason) (peer : Option PartReason) (s : State) : State :=
  let lost := recordLoss reason peer s
  let quiet :=
    { lost with link.peerHold := false, link.replyTimer := none, link.quietTimer := .stopped, link.retry := 0 }
  let flushed := noteSync s (resyncStop (flush quiet))
  { decideHandover (takeoverSent s) flushed with keptSwap := none }

/-- Parts 1 to 3 of the standby side's link-loss procedure (R64). -/
def standbyLoss (reason : LossReason) (peer : Option PartReason) (s : State) : State :=
  { recordLoss reason peer s with
    standby.resendException := false, link.acceptRepeat := false, standby.silenceTimer := none }

/-- The link-loss procedure of the part's side, less the link state that follows. -/
def endAssociation (reason : LossReason) (peer : Option PartReason) (s : State) : State :=
  if s.role.activeSide then activeLoss reason peer s else standbyLoss reason peer s

/-- An association ends for a reason other than LOCAL: the link enters IDLE. -/
def loseLink (reason : LossReason) (peer : Option PartReason) (s : State) : State :=
  enterLinkState .idle (endAssociation reason peer s)

/-- An association ends by the part's own decision: PART is sent and the link enters LEAVING (R61). -/
def leaveAssociation (reason : PartReason) (s : State) : State :=
  leaveLink reason (endAssociation .locally none s)

/-! ## The start of an association (R56 to R59) -/

/-- The sequence state of both directions is zeroed (R59, R133, R137). -/
def zeroSequence (s : State) : State :=
  { s with
    link.ackPoint := 0#8, link.sendPoint := 0#8, link.cursor := 0#8, standby.receiveNext := 0#8, standby.appliedNext := 0#8 }

/-- The active side enters UP at a matching ACCEPT (R59). -/
def enterUpActive (s : State) : State :=
  let s := zeroSequence (enterLinkState .up s)
  setCause .linkUp
    { s with link.retry := 0, link.replyTimer := none, link.quietTimer := quietStarted s.linkParams, link.peerHold := false }

/-- The standby side starts its receive state (R59, R133). -/
def startStandbySide (acceptRepeat : Bool) (s : State) : State :=
  { s with
    standby.resendException := false, standby.holding := false, standby.sinceReport := 0,
    standby.silenceTimer := silenceStarted s.linkParams, link.acceptRepeat := acceptRepeat }

/-- The standby side sends ACCEPT and enters UP with the session of the JOIN (R59). -/
def acceptJoin (session : Byte) (s : State) : State :=
  let s := zeroSequence (enterLinkState .up (sendFrame (.accept session) s))
  setCause .linkUp
    (startStandbySide true
      { s with link.session := session, link.retry := 0, link.peerHold := false, link.deferredJoin := none })

/-- A JOIN is answered by role (R56). -/
def answerJoin (session : Byte) (s : State) : State :=
  match s.role with
  | .standby => if s.standby.queue.isEmpty then acceptJoin session s else { s with link.deferredJoin := some session }
  | .active | .handingOver => denyConflict session s
  | .unassigned | .fenced => sendFrame (.deny session .noRole) s
  | .promoting => sendFrame (.deny session .roleChanging) s

/-! ## Reports of the standby (R98 to R101) -/

/-- An ACK with ASEQ = P and HOLD as it stands; the applied-since-report count becomes 0 (R98). -/
def sendAck (final : Bool) (s : State) : State :=
  sendFrame (.ack s.standby.appliedNext final s.standby.holding false) { s with standby.sinceReport := 0 }

/-- A RESEND with ASEQ = P, RSEQ = R and HOLD as it stands; counted, and the count becomes 0 (R93, R100). -/
def sendResend (s : State) : State :=
  sendFrame (.resend s.standby.appliedNext s.standby.receiveNext s.standby.holding)
    { s with standby.sinceReport := 0, linkStats.resendSent := s.linkStats.resendSent + 1 }

/-- The one report a completion decides while the link is UP on the standby side (R98, R100, R101). -/
def reportCompletion (leavesHold : Bool) (s : State) : State :=
  let s := { s with standby.sinceReport := s.standby.sinceReport + 1 }
  if leavesHold then (if s.standby.resendException then sendResend s else sendAck false s)
  else if s.standby.queue.isEmpty || decide (Config.ackBatch ≤ s.standby.sinceReport) then sendAck false s
  else s

/-- What waits for the apply queue to be empty: a deferred JOIN (R57) and a promotion (R130). -/
def queueEmptied (s : State) : State :=
  match s.role with
  | .standby =>
    match s.link.deferredJoin with
    | some session => if s.link.state = .idle then acceptJoin session s else s
    | none => s
  | .promoting => completePromotion s
  | .unassigned | .active | .handingOver | .fenced => s

/-- The application of the oldest record completes (R97). -/
def completeRecord (s : State) : State :=
  let rest := s.standby.queue.tail
  let leavesHold := s.standby.holding && rest.length == Config.readyAt
  let done :=
    { s with
      standby.queue := rest, standby.appliedNext := s.standby.appliedNext + 1, standby.engine := .idle,
      standby.holding := s.standby.holding && !leavesHold }
  let told := if standbyUp s then reportCompletion leavesHold done else done
  if rest.isEmpty then queueEmptied told else told

/-! ## Takeover and the end of a handover (R133, R137) -/

/-- A STANDBY part applies a TAKEOVER (R137).  No record stands behind it; one that did would be discarded with the queue
(log entry 10). -/
def takeOver (s : State) : State :=
  let passed := s.standby.appliedNext + 1
  let emptied :=
    { s with
      standby.queue := [], standby.engine := .idle, standby.holding := false,
      standby.appliedNext := if s.standby.queue.tail.isEmpty then passed else s.standby.receiveNext }
  if s.link.state = .up then
    let acked := sendFrame (.ack passed false false true) { emptied with standby.sinceReport := 0 }
    let swapped := zeroSequence (changeRole .active acked)
    setCause .takenOver
      { swapped with
        keptSwap := some passed, standby.resendException := false, link.peerHold := false, link.retry := 0,
        standby.silenceTimer := none, link.replyTimer := none, link.quietTimer := quietStarted s.linkParams }
  else setCause .takenOver (changeRole .active emptied)

/-- A handover completes at the old active part (R133). -/
def completeHandover (s : State) : State :=
  let s := changeRole .standby { faultHeld s with handoverTimer := none }
  let s := zeroSequence (enterLinkState .up s)
  setCause .handoverDone
    (startStandbySide false
      { s with link.peerHold := false, link.retry := 0, link.replyTimer := none, link.quietTimer := .stopped })

/-! ## Taking a record (R95) -/

/-- The idle apply engine takes the oldest record of the queue. -/
def takeRecord (s : State) : State :=
  match s.standby.queue with
  | [] => s
  | r :: _ =>
    match r.record with
    | .write line _ | .fill line _ =>
      if (owner s.windows (lineByteAddr line)).isSome then
        match nextWord r.record 0 with
        | some o => { s with standby.engine := .applying o }
        | none => completeRecord s
      else completeRecord (setCause .mapMismatch s)
    | .mark _ _ => completeRecord s
    | .takeover => if s.role = .standby then takeOver s else completeRecord s

/-! ## Removal by acknowledgement (R39, R40) -/

/-- The SENT entries before ASEQ, oldest first. -/
def removedBy (s : State) (aseq : Byte) : List Entry := s.journal.filter fun e => e.state.isBefore s.link.ackPoint aseq

/-- The removal covers a TAKEOVER (R71, R133). -/
def coversTakeover (s : State) (aseq : Byte) : Bool := (removedBy s aseq).any fun e => e.body.isTakeover

/-- The slots of removed MARK entries become DONE, in journal order (R144). -/
def completeMark (s : State) (e : Entry) : State :=
  match e.body with
  | .mark _ slot => setCause .checkpointDone (decideSlot slot .done s)
  | .write _ _ _ | .fill _ _ _ | .takeover => s

/-- Every SENT entry before ASEQ is removed and A becomes ASEQ; a cursor that lay before ASEQ follows (R38, R39).  The slots of
MARKs become DONE, and a write held with reason STALL is re-presented when an entry is freed (R40).  DESIGN CHOICE: the cursor follows
in RECOVERY too, where R82 has it unchanged and R38, R39 and R68 keep it in the range A to S (log entry 29). -/
def removeAcknowledged (aseq : Byte) (s : State) : State :=
  let gone := removedBy s aseq
  let kept :=
    { s with
      journal := s.journal.filter fun e => !e.state.isBefore s.link.ackPoint aseq
      link.ackPoint := aseq
      link.cursor := if seqBefore s.link.ackPoint aseq s.link.cursor then aseq else s.link.cursor }
  let told := gone.foldl completeMark kept
  if gone.isEmpty then told else representStalled told

/-- An ACK is valid in sequence (R71). -/
def ackValid (s : State) (aseq : Byte) (swap : Bool) : Bool :=
  seqInRange s.link.ackPoint s.link.sendPoint aseq && (coversTakeover s aseq == swap)

/-- A RESEND is valid in sequence (R71). -/
def resendValid (s : State) (aseq rseq : Byte) : Bool :=
  seqInRange s.link.ackPoint s.link.sendPoint aseq && seqInRange aseq s.link.sendPoint rseq && !coversTakeover s aseq

end Sys2Proof.Machine
end

