-- ==== Sys2Proof/Machine/Bus.lean ====
section
/-! DEFINITION. The word bus and the capture unit: UPSTREAM_PRESENTATION, ARBITER_GRANT and DOWNSTREAM_COMPLETION (R6 to R11,
R28 to R32, R96, R114, R115, R150 to R158). -/

namespace Sys2Proof.Machine

open Sys2Proof

/-! ## Presentation (R151) -/

/-- A WRITE that carries no byte. -/
def emptyWrite (a : Access) : Bool := a.kind == .write && a.lanes == 0#4

/-- The processor presents an access: it requests the port, or ends at once with FAULT for an empty lane mask.  The processor
presents only in the state NONE (R152); in any other nothing is presented (log entry 6). -/
def present (a : Access) (s : State) : State :=
  match s.upstream with
  | .none =>
    if emptyWrite a then { s with ending := some .fault } else { s with upstream := .requesting a false, ending := none }
  | .requesting _ _ | .inProgress _ | .held _ _ _ => s

/-- UPSTREAM_PRESENTATION (R151). -/
def execUpstreamPresentation (a : Access) (s : State) : Host.Outcome State Fault Refusal := whenLive (present a) s

/-! ## Classification (R6, R7, R13) -/

/-- The six outcomes of a write (R6). -/
inductive Outcome
  | pass
  | capture (w : WindowId)
  | merge (w : WindowId)
  | diverge (w : WindowId)
  | hold (w : WindowId) (reason : HoldReason)
  | refuse (w : WindowId)
  deriving DecidableEq, Repr

/-- An ACTIVE part's outcome in a MIRROR window (R7). -/
def classifyActive (s : State) (a : Access) (w : WindowId) : Outcome :=
  if s.link.state.associated then
    if mergePossible s w (lineOfWord a.addr) then .merge w
    else if 0 < freeEntries s then .capture w
    else
      match s.windows[w].policy with
      | .stall => .hold w .stall
      | .diverge => .diverge w
      | .strict => .refuse w
  else
    match s.windows[w].policy with
    | .stall | .diverge => .diverge w
    | .strict => .refuse w

/-- The outcome of a write at its grant, from role, owning window, policy, link and journal (R7); a write forced to diverge
diverges in the role ACTIVE (R13). -/
def classify (s : State) (a : Access) (forced : Bool) : Outcome :=
  match ownerOfWord s a.addr with
  | none => .pass
  | some w =>
    match s.role with
    | .unassigned => .pass
    | .active => if forced then .diverge w else classifyActive s a w
    | .handingOver => .hold w .handover
    | .standby | .promoting | .fenced => .refuse w

/-! ## Grants (R153 to R156) -/

/-- The downstream access of a granted upstream access (R153). -/
def startUpstream (a : Access) (s : State) : State :=
  { s with
    upstream := .inProgress a
    port := some { owner := .upstream, access := { a with lanes := if a.kind = .read then BitVec.allOnes 4 else a.lanes } } }

/-- A capture appends a PENDING WRITE with the written bytes (R28). -/
def captureWrite (w : WindowId) (a : Access) (s : State) : State :=
  countCaptured w (appendEntry { body := .write w (lineOfWord a.addr) (accessBytes a), state := .pending } s)

/-- A merge folds the written bytes into the youngest entry (R29). -/
def mergeWrite (w : WindowId) (a : Access) (s : State) : State :=
  countMerged w { s with journal := mergeYoungest (accessBytes a) s.journal }

/-- A diverge marks the write's track and taints OPEN checkpoints (R9). -/
def divergeWrite (w : WindowId) (a : Access) (s : State) : State :=
  countDiverged w (taintOpen (markTrack w (s.windows[w].trackOf (wordByteAddr a.addr)) s))

/-- A hold puts the write into the slot; with reason STALL the stall limit timer starts (R11). -/
def holdWrite (w : WindowId) (reason : HoldReason) (a : Access) (s : State) : State :=
  countHeld w
    { s with
      upstream := .held a w reason
      stallTimer := if reason = .stall then some s.pathParams.stall.toNat else none }

/-- A refuse ends the write with FAULT (R10). -/
def refuseWrite (w : WindowId) (s : State) : State := setCause .writeRefused (countRefused w (endWithFault s))

/-- The grant of an upstream access (R6, R151). -/
def grantUpstream (a : Access) (forced : Bool) (s : State) : State :=
  match a.kind with
  | .read => startUpstream a s
  | .write =>
    match classify s a forced with
    | .pass => startUpstream a s
    | .capture w => startUpstream a (captureWrite w a s)
    | .merge w => startUpstream a (mergeWrite w a s)
    | .diverge w => startUpstream a (divergeWrite w a s)
    | .hold w reason => holdWrite w reason a s
    | .refuse w => refuseWrite w s

/-- A resync read of one word: all four lanes, READ (R153). -/
def resyncRead (line : LineNo) (pos : Nat) : PortAccess :=
  { owner := .resync
    access := { kind := .read, addr := wordOfLine line pos, lanes := BitVec.allOnes 4, data := Vector.replicate 4 0#8 } }

/-- The grant of the internal requester (R31, R96, R114, R115).  A first-read grant at which the free entries no longer exceed
the reserve performs no read, and the request is withdrawn. -/
def grantInternal (r : InternalRequest) (s : State) : State :=
  match r with
  | .firstRead p =>
    if s.pathParams.reserve.toNat < freeEntries s then
      { appendEntry { body := .fill p.window (walkLine s p) [], state := .filling } s with
        resync := .reading (some p) 0, port := some (resyncRead (walkLine s p) 0) }
    else { s with resync := .waiting p false }
  | .nextRead line n => { s with port := some (resyncRead line n) }
  | .applyWord _ _ =>
    match applyAccess s with
    | some a => { s with port := some { owner := .apply, access := a } }
    | none => s

/-- The upstream access that requests the port. -/
def upstreamRequest (s : State) : Option (Access × Bool) :=
  match s.upstream with
  | .requesting a forced => some (a, forced)
  | .none | .inProgress _ | .held _ _ _ => none

/-- One grant under the fairness count (R156).  Without a FREE port or without a requester there is no grant (log entry 6). -/
def grant (s : State) : State :=
  if s.port.isSome then s
  else
    match upstreamRequest s, internalRequest s with
    | none, none => s
    | some (a, forced), none => grantUpstream a forced s
    | none, some r => { grantInternal r s with upstreamRun := 0 }
    | some (a, forced), some r =>
      if s.upstreamRun < s.pathParams.fairness.toNat then
        grantUpstream a forced { s with upstreamRun := s.upstreamRun + 1 }
      else { grantInternal r s with upstreamRun := 0 }

/-- ARBITER_GRANT (R156). -/
def execArbiterGrant (s : State) : Host.Outcome State Fault Refusal := whenLiveSettled grant s

/-! ## Completion (R153) -/

/-- What memory does with an access that completes (R150). -/
def memoryAfter (s : State) (a : Access) : List Host.Cell :=
  match a.kind with
  | .read => s.mem
  | .write => Memory.writeWord s.mem a.addr a.lanes a.data

/-- The upstream access ends with DONE, with the word memory returned for a READ (R151, R153). -/
def completeUpstream (s : State) : State :=
  match s.upstream with
  | .inProgress a =>
    { s with
      upstream := .none
      ending := some (.done (match a.kind with | .read => some (Memory.readWord s.mem a.addr) | .write => none)) }
  | .none | .requesting _ _ | .held _ _ _ => s

/-- The walk moves on after the last word of a line (R115). -/
def advanceWalk (s : State) (walk : Option Walk) : Resync :=
  match walk with
  | some p =>
    if p.offset + 1 < s.windows[p.window].trackLines then .waiting { p with offset := p.offset + 1 } false else .idle
  | none => .idle

/-- A resync read completes: the FILLING entry takes the word; after word 15 it is PENDING, the line counts as copied and the
walk moves on (R32, R115, R121). -/
def completeRead (word : WordData) (s : State) : State :=
  match s.resync with
  | .reading walk n =>
    if n < 15 then { takeWord word false s with resync := .reading walk (n + 1) }
    else
      let copied := match fillingLine s with
        | some f => countLineCopied f.1 s
        | none => s
      { takeWord word true copied with resync := advanceWalk s walk }
  | .idle | .waiting _ _ => s

/-- An apply write completes: the next word is requested, or the record is complete (R96, R97). -/
def completeApplyWord (s : State) : State :=
  match s.standby.engine, s.standby.queue with
  | .applying o, r :: _ =>
    match nextWord r.record (o + 1) with
    | some o' => { s with standby.engine := .applying o' }
    | none => completeRecord s
  | _, _ => s

/-- The downstream access completes: memory has carried it out, the port is FREE and its owner is told (R153).  With a FREE port
nothing completes (log entry 6). -/
def completeAccess (s : State) : State :=
  match s.port with
  | none => s
  | some p =>
    let freed := { s with port := none, mem := memoryAfter s p.access }
    match p.owner with
    | .upstream => completeUpstream freed
    | .resync => completeRead (Memory.readWord s.mem p.access.addr) freed
    | .apply => completeApplyWord freed
    | .dropped => freed

/-- DOWNSTREAM_COMPLETION (R153). -/
def execDownstreamCompletion (s : State) : Host.Outcome State Fault Refusal := whenLiveSettled completeAccess s

end Sys2Proof.Machine
end

