-- ==== Sys2Proof/Machine/Engine.lean ====
section
/-! DEFINITION. The events the part's own engines and timers bring: APPLY_TAKE_RECORD, the six expiries, REC_DECISION and
FRAME_TRANSMISSION_END.  An expiry of a timer that does not run, like an event whose conditions do not hold, changes nothing
(R15; log entry 6). -/

namespace Sys2Proof.Machine

open Sys2Proof

/-! ## The apply engine -/

/-- The IDLE engine takes the oldest record (R95). -/
def takeNext (s : State) : State := if s.standby.engine = .idle then takeRecord s else s

/-- APPLY_TAKE_RECORD (R95). -/
def execApplyTakeRecord (s : State) : Host.Outcome State Fault Refusal := whenLiveSettled takeNext s

/-! ## Timers -/

/-- The stall limit expires: the held write is re-presented, forced to diverge (R13). -/
def expireStall (s : State) : State :=
  match s.upstream, s.stallTimer with
  | .held a _ .stall, some _ => setCause .stallExpired { s with upstream := .requesting a true, stallTimer := none }
  | _, _ => s

/-- STALL_LIMIT_EXPIRY (R13). -/
def execStallLimitExpiry (s : State) : Host.Outcome State Fault Refusal := whenLiveSettled expireStall s

/-- The rejoin delay expires with its conditions holding: a new session number, JOIN, JOINING (R52). -/
def expireRejoin (s : State) : State :=
  if s.link.rejoinTimer.isSome && joinConditions s then
    let s := { s with link.session := s.link.session + 1, link.retry := 1 }
    startReply (enterLinkState .joining (sendFrame (.join s.link.session) s))
  else s

/-- REJOIN_DELAY_EXPIRY (R52). -/
def execRejoinDelayExpiry (s : State) : Host.Outcome State Fault Refusal := whenLiveSettled expireRejoin s

/-- The reply timer expires (R53, R61, R76, R84). -/
def expireReply (s : State) : State :=
  if s.link.replyTimer.isNone then s
  else
    match s.link.state with
    | .up => enterRecovery s
    | .recovery =>
      if s.link.retry < s.linkParams.retries.toNat then startReply (sendAsk { s with link.retry := s.link.retry + 1 })
      else loseLink .noReply none s
    | .joining =>
      if s.link.retry < s.linkParams.retries.toNat then
        startReply (sendFrame (.join s.link.session) { s with link.retry := s.link.retry + 1 })
      else enterLinkState .idle (stopReply { s with link.retry := 0 })
    | .leaving => endLeaving s
    | .offline | .idle => stopReply s

/-- REPLY_TIMER_EXPIRY (R76). -/
def execReplyTimerExpiry (s : State) : Host.Outcome State Fault Refusal := whenLiveSettled expireReply s

/-- The quiet timer expires: with nothing SENT in UP the link enters RECOVERY; elsewhere it only stays expired (R78). -/
def expireQuiet (s : State) : State :=
  match s.link.quietTimer with
  | .running _ =>
    let s := { s with link.quietTimer := .expired }
    if s.link.state = .up ∧ sentEntries s = 0 then enterRecovery s else s
  | .stopped | .expired => s

/-- QUIET_TIMER_EXPIRY (R78). -/
def execQuietTimerExpiry (s : State) : Host.Outcome State Fault Refusal := whenLiveSettled expireQuiet s

/-- The silence timer expires: the association ends with SILENCE (R102). -/
def expireSilence (s : State) : State :=
  if s.standby.silenceTimer.isSome && standbyUp s then enterLinkState .idle (standbyLoss .silence none s) else s

/-- SILENCE_TIMER_EXPIRY (R102). -/
def execSilenceTimerExpiry (s : State) : Host.Outcome State Fault Refusal := whenLiveSettled expireSilence s

/-- The handover timer expires: a PENDING TAKEOVER is withdrawn and the role returns to ACTIVE; a SENT one stays (R34, R134). -/
def expireHandover (s : State) : State :=
  if s.handoverTimer.isSome && s.role == .handingOver then
    let stopped := { s with handoverTimer := none }
    if takeoverPending s then
      setCause .handoverFailed (changeRole .active { stopped with journal := s.journal.dropLast })
    else stopped
  else s

/-- HANDOVER_TIMER_EXPIRY (R134). -/
def execHandoverTimerExpiry (s : State) : Host.Outcome State Fault Refusal := whenLiveSettled expireHandover s

/-! ## The transmitter -/

/-- The oldest entry that is not SENT, with its place in the journal. -/
def firstUnsent : List Entry → Option Entry
  | [] => none
  | e :: rest => if e.state.isSent then firstUnsent rest else some e

/-- The oldest entry that is not SENT given a state. -/
def setFirstUnsent (st : EntryState) : List Entry → List Entry
  | [] => []
  | e :: rest => if e.state.isSent then e :: setFirstUnsent st rest else { e with state := st } :: rest

/-- The send count of the entry with a sequence raised by 1 (R37). -/
def raiseSendCount (q : Byte) (es : List Entry) : List Entry :=
  es.map fun e =>
    match e.state with
    | .sent x n => if x = q then { e with state := .sent x (n + 1) } else e
    | .filling | .pending => e

/-- The SENT entry with a sequence. -/
def entryWithSeq (q : Byte) (es : List Entry) : Option Entry := es.find? fun e => e.state.hasSeq q

/-- A REC may be decided: UP on the active side, peer-hold clear, and the transmitter with nothing to send (R69). -/
def mayDecideRec (s : State) : Bool :=
  s.link.state == .up && s.role.activeSide && !s.link.peerHold && s.link.tx.isNone && s.link.txQueue.isEmpty

/-- The REC of an entry leaves; the kept SWAP ASEQ goes with the first (R69, R138). -/
def transmit (q : Byte) (e : Entry) (s : State) : State :=
  { s with link.tx := some (.record q e.body.record), keptSwap := none }

/-- A retransmission of the entry the cursor names (R36, R37, R70). -/
def retransmit (s : State) : State :=
  match entryWithSeq s.link.cursor s.journal with
  | some e =>
    transmit s.link.cursor e
      { s with
        journal := raiseSendCount s.link.cursor s.journal
        link.cursor := s.link.cursor + 1
        linkStats.retransmitted := s.linkStats.retransmitted + 1 }
  | none => s

/-- A first transmission of the oldest entry that is not SENT, where it is PENDING and the transmit window has room (R36, R37,
R69, R70, R75). -/
def transmitFirst (s : State) : State :=
  match firstUnsent s.journal with
  | some { body := b, state := .pending } =>
    if sentEntries s < s.linkParams.window.toNat then
      let q := s.link.sendPoint
      let timed := if sentEntries s = 0 then startReply s else s
      transmit q { body := b, state := .pending }
        { timed with
          journal := setFirstUnsent (.sent q 1) s.journal
          link.sendPoint := q + 1
          link.cursor := q + 1
          linkStats.sentFirst := s.linkStats.sentFirst + 1 }
    else s
  | _ => s

/-- A REC is decided, where R69's conditions hold. -/
def decideRec (s : State) : State :=
  if mayDecideRec s then
    if s.link.cursor = s.link.sendPoint then transmitFirst s else retransmit s
  else s

/-- REC_DECISION (R69). -/
def execRecDecision (s : State) : Host.Outcome State Fault Refusal := whenLive decideRec s

/-- The frame being sent has left; the next waiting frame follows (R49). -/
def endFrame (s : State) : State :=
  { s with link.tx := s.link.txQueue.head?, link.txQueue := s.link.txQueue.tail }

/-- FRAME_TRANSMISSION_END (R49). -/
def execFrameTransmissionEnd (s : State) : Host.Outcome State Fault Refusal := whenLive endFrame s

end Sys2Proof.Machine
end

