-- ==== Sys2Proof/Machine/Management.lean ====
section
/-! DEFINITION. The commands of the management port, from READ STATUS to READ IDENTIFICATION, and the transfers that end with
FRAMING or UNKNOWN (R2, R44, R46 to R48, R122, R123, R125 to R131, R142, R146, R147, R163 to R175). -/

namespace Sys2Proof.Machine

open Sys2Proof

/-! ## The result a command leaves (R163, R164) -/

/-- The last command result replaced as a whole, with the data-out bytes the transfer goes on to shift.  A transfer opens at a
falling edge of CS#, so the port no longer waits for CS# to go high (R165). -/
def answer (code : Byte) (result : Result) (slot : SlotId) (data : List Byte) (s : State) : State :=
  { s with
    lastResult := { result := result, code := code, slot := slot }, dataOut := data,
    spi := if s.spi = .waitHigh then .closed else s.spi }

/-- A command accepted without data-out. -/
def accept (code : Byte) (s : State) : State := answer code .ok 0 [] s

/-- A command refused without data-out: it changes nothing but the last command result (R164). -/
def refuse (code : Byte) (r : Result) (s : State) : State := answer code r 0 [] s

/-- A read accepted: its data-out is taken in the event (R163). -/
def readOut (code : Byte) (data : List Byte) (s : State) : State := answer code .ok 0 data s

/-- A read refused with BAD_PARAM: its data-out is zeros (R170, R182). -/
def refuseRead (code : Byte) (n : Nat) (s : State) : State := answer code .badParam 0 (zeros n) s

/-! ## Status and causes (R166 to R168) -/

/-- The flow flag: peer-hold on the active side, HOLD on the standby side (R166). -/
def flowFlag (s : State) : Bool := if s.role.activeSide then s.link.peerHold else s.standby.holding

/-- READ STATUS data-out (R166, R182). -/
def statusBytes (s : State) : List Byte :=
  [s.role.code, s.link.state.code, BitVec.ofNat 8 s.journal.length,
   bitAt s.link.enable 0 ||| bitAt (flowFlag s) 1 ||| bitAt (irqAsserted s) 2 ||| (heldCode s.upstream <<< 4),
   s.lastResult.result.code, s.lastResult.code, BitVec.ofNat 8 s.lastResult.slot.val]

/-- READ_STATUS (R166). -/
def execReadStatus (s : State) : Host.Outcome State Fault Refusal := whenLive (fun s => readOut 0x50#8 (statusBytes s) s) s

/-- READ_CAUSES (R167). -/
def execReadCauses (s : State) : Host.Outcome State Fault Refusal := whenLive (fun s => readOut 0x51#8 (bytesOf16 s.causes) s) s

/-- CLEAR_CAUSES: every named cause is absent (R167). -/
def execClearCauses (named : CauseSet) (s : State) : Host.Outcome State Fault Refusal :=
  whenLive (fun s => accept 0x52#8 { s with causes := s.causes &&& ~~~named }) s

/-- WRITE_CAUSE_MASK: the parameter becomes the whole mask (R168). -/
def execWriteCauseMask (newMask : CauseSet) (s : State) : Host.Outcome State Fault Refusal :=
  whenLive (fun s => accept 0x53#8 { s with mask := newMask }) s

/-- READ_CAUSE_MASK (R168). -/
def execReadCauseMask (s : State) : Host.Outcome State Fault Refusal :=
  whenLive (fun s => readOut 0x54#8 (bytesOf16 s.mask) s) s

/-! ## Windows and tracks (R2, R16 to R18, R122, R123, R170) -/

/-- READ WINDOW data-out (R170, R182). -/
def windowBytes (s : State) (w : WindowId) : List Byte :=
  [s.windows[w].mode.code] ++ bytesOf24 s.windows[w].base ++
  [BitVec.ofNat 8 s.windows[w].sizeExp.val, s.windows[w].policy.code, (syncState s w).code]

/-- READ_WINDOW (R170). -/
def execReadWindow (number : Byte) (s : State) : Host.Outcome State Fault Refusal :=
  whenLive (fun s =>
    match windowOf number with
    | some w => readOut 0x60#8 (windowBytes s w) s
    | none => refuseRead 0x60#8 7 s) s

/-- The held write's address lies in a window's range (R14). -/
def heldIn (s : State) (x : Window) : Bool :=
  match s.upstream with
  | .held a _ _ => x.covers (wordByteAddr a.addr)
  | .none | .requesting _ _ | .inProgress _ => false

/-- The four fields of a window take the given values together (R2), with what a change of mode does to the tracks and the
walk (R16, R17, R118) and the re-presentation of a held write that a change of mode or policy reaches (R14, R18). -/
def changeWindow (w : WindowId) (new : Window) (s : State) : State :=
  let old := s.windows[w]
  let set := { s with windows := s.windows.set w new }
  let tracked :=
    match old.mode, new.mode with
    | .off, .mirror => if s.role = .active then { set with maps := set.maps.set w (BitVec.allOnes 64) } else set
    | .mirror, .off => abandonWalk w { set with maps := set.maps.set w 0#64 }
    | .off, .off | .mirror, .mirror => set
  if (old.mode ≠ new.mode ∨ old.policy ≠ new.policy) ∧ heldIn s new = true then representHeld tracked else tracked

/-- WRITE WINDOW as judged by R2. -/
def writeWindow (number mode : Byte) (base : ByteAddr) (sizeExp policy : Byte) (s : State) : State :=
  match windowOf number, windowFields mode base sizeExp policy with
  | some w, some new =>
    if s.windows[w].mode = .mirror ∧ (new.base ≠ s.windows[w].base ∨ new.sizeExp ≠ s.windows[w].sizeExp) then
      refuse 0x61#8 .busy s
    else if new.mode ≠ s.windows[w].mode ∧ s.role = .handingOver then refuse 0x61#8 .busy s
    else accept 0x61#8 (settle s (changeWindow w new s))
  | _, _ => refuse 0x61#8 .badParam s

/-- WRITE_WINDOW (R2). -/
def execWriteWindow (number mode : Byte) (base : ByteAddr) (sizeExp policy : Byte) (s : State) :
    Host.Outcome State Fault Refusal :=
  whenLive (writeWindow number mode base sizeExp policy) s

/-- READ TRACK MAP data-out (R123, R182). -/
def trackMapBytes (s : State) (w : WindowId) : List Byte :=
  let walk : Option Walk := if walkInside s w then s.resync.walk else none
  let words := match s.resync with
    | .reading _ n => if walkInside s w then n else 0
    | .idle | .waiting _ _ => 0
  [(syncState s w).code] ++ bytesOf64 s.maps[w] ++
  (match walk with
    | some p => [0x01#8, BitVec.ofNat 8 p.track] ++ bytesOf16 (BitVec.ofNat 16 p.offset)
    | none => zeros 4) ++
  [BitVec.ofNat 8 words]

/-- READ_TRACK_MAP (R123). -/
def execReadTrackMap (number : Byte) (s : State) : Host.Outcome State Fault Refusal :=
  whenLive (fun s =>
    match windowOf number with
    | some w => readOut 0x62#8 (trackMapBytes s w) s
    | none => refuseRead 0x62#8 14 s) s

/-- MARK WINDOW as judged by R122. -/
def markWindow (number first last : Byte) (s : State) : State :=
  match windowOf number with
  | some w =>
    if 63 < first.toNat ∨ 63 < last.toNat ∨ last.toNat < first.toNat then refuse 0x63#8 .badParam s
    else if s.role = .handingOver then refuse 0x63#8 .busy s
    else if s.role ≠ .active then refuse 0x63#8 .wrongRole s
    else if s.windows[w].mode = .off then refuse 0x63#8 .badParam s
    else
      accept 0x63#8
        (settle s { s with maps := s.maps.set w (s.maps[w] ||| trackRange first.toNat last.toNat) })
  | none => refuse 0x63#8 .badParam s

/-- MARK_WINDOW (R122). -/
def execMarkWindow (number first last : Byte) (s : State) : Host.Outcome State Fault Refusal :=
  whenLive (markWindow number first last) s

/-! ## Roles (R125 to R131) -/

/-- The apply queue is discarded: a word write in progress completes, the rest is dropped and P takes the value of R (R105). -/
def discardQueue (s : State) : State :=
  dropAccess .apply
    { s with
      standby.queue := [], standby.engine := .idle, standby.appliedNext := s.standby.receiveNext,
      standby.resendException := false, standby.holding := false, standby.sinceReport := 0 }

/-- The role is withdrawn (R127): the association or the joining ends first, then the role changes, then a standby's queue
goes. -/
def withdrawRole (s : State) : State :=
  let left :=
    if s.link.state.associated then leaveAssociation .roleChange s
    else if s.link.state = .joining then leaveLink .roleChange { s with link.retry := 0 }
    else s
  let changed := changeRole .unassigned left
  if s.role = .standby then discardQueue changed else changed

/-- SET ROLE as judged by R125. -/
def setRole (target : Byte) (s : State) : State :=
  match targetOf target, s.role with
  | none, _ => refuse 0x70#8 .badParam s
  | some .active, .unassigned => accept 0x70#8 (settle s (becomeActiveMarked s))
  | some .standby, .unassigned => accept 0x70#8 (settle s (changeRole .standby s))
  | some .standby, .fenced => accept 0x70#8 (settle s (changeRole .standby s))
  | some .unassigned, .active => accept 0x70#8 (settle s (withdrawRole s))
  | some .unassigned, .standby => accept 0x70#8 (settle s (withdrawRole s))
  | some .unassigned, .fenced => accept 0x70#8 (settle s (changeRole .unassigned s))
  | some _, _ => refuse 0x70#8 .wrongRole s

/-- SET_ROLE (R125). -/
def execSetRole (target : Byte) (s : State) : Host.Outcome State Fault Refusal := whenLive (setRole target) s

/-- A promotion accepted in STANDBY (R129). -/
def startPromotion (s : State) : State :=
  let left := if s.link.state = .up then leaveAssociation .roleChange s else s
  let promoting := changeRole .promoting left
  if promoting.standby.queue.isEmpty then completePromotion promoting else promoting

/-- PROMOTE as judged by R128. -/
def promote (force : Byte) (s : State) : State :=
  if 1 < force.toNat then refuse 0x71#8 .badParam s
  else
    match s.role with
    | .active | .handingOver | .unassigned | .promoting => refuse 0x71#8 .wrongRole s
    | .fenced => accept 0x71#8 (settle s (completePromotion s))
    | .standby =>
      if s.link.state = .up ∧ force = 0#8 then refuse 0x71#8 .busy s else accept 0x71#8 (settle s (startPromotion s))

/-- PROMOTE (R128). -/
def execPromote (force : Byte) (s : State) : Host.Outcome State Fault Refusal := whenLive (promote force) s

/-- What keeps a handover waiting: a write held with reason STALL, a write forced to diverge that awaits its grant, or a FILL
under way (R131). -/
def handoverBusy (s : State) : Bool :=
  (match s.upstream with
    | .held _ _ .stall => true
    | .requesting _ forced => forced
    | .held _ _ .handover | .none | .inProgress _ => false) || s.resync.filling

/-- A handover accepted: a PENDING TAKEOVER, the role HANDING_OVER, the handover timer (R131). -/
def startHandover (s : State) : State :=
  let s := changeRole .handingOver (appendEntry { body := .takeover, state := .pending } s)
  { s with handoverTimer := some s.pathParams.handoverMs }

/-- HANDOVER as judged by R131. -/
def handover (s : State) : State :=
  if s.role ≠ .active then refuse 0x72#8 .wrongRole s
  else if s.link.state = .recovery then refuse 0x72#8 .busy s
  else if s.link.state ≠ .up then refuse 0x72#8 .linkDown s
  else if allInSync s = false then refuse 0x72#8 .notInSync s
  else if handoverBusy s then refuse 0x72#8 .busy s
  else if freeEntries s = 0 then refuse 0x72#8 .full s
  else accept 0x72#8 (settle s (startHandover s))

/-- HANDOVER (R131). -/
def execHandover (s : State) : Host.Outcome State Fault Refusal := whenLive handover s

/-! ## Link (R46 to R48, R171) -/

/-- The link is enabled (R47). -/
def enableLink (s : State) : State :=
  let s := { s with link.enable := true, link.joinSuspended := false }
  if s.link.state = .offline then { enterLinkState .idle s with link.retry := 0 } else s

/-- The link is disabled (R48). -/
def disableLink (s : State) : State :=
  let s := { s with link.enable := false }
  match s.link.state with
  | .offline | .leaving => s
  | .idle => enterLinkState .offline { s with link.deferredJoin := none }
  | .joining => leaveLink .disabled { s with link.retry := 0 }
  | .up | .recovery => leaveAssociation .disabled s

/-- LINK_CONTROL_ENABLE (R47); an undefined operation code is refused with BAD_PARAM (R48). -/
def execLinkControlEnable (operation : Byte) (s : State) : Host.Outcome State Fault Refusal :=
  whenLive (fun s =>
    if operation = 0x01#8 then accept 0x74#8 (settle s (enableLink s)) else refuse 0x74#8 .badParam s) s

/-- LINK_CONTROL_DISABLE; an operation code that is neither enable nor disable is refused with BAD_PARAM (R48). -/
def execLinkControlDisable (operation : Byte) (s : State) : Host.Outcome State Fault Refusal :=
  whenLive (fun s =>
    if operation = 0x02#8 then accept 0x74#8 (settle s (disableLink s)) else refuse 0x74#8 .badParam s) s

/-- WRITE_LINK_PARAMETERS (R46). -/
def execWriteLinkParameters (window reply retries quiet rejoin : Byte) (s : State) : Host.Outcome State Fault Refusal :=
  whenLive (fun s =>
    let p : LinkParams := { window := window, reply := reply, retries := retries, quiet := quiet, rejoin := rejoin }
    if s.link.state ≠ .offline then refuse 0x75#8 .busy s
    else if p.inRange then accept 0x75#8 { s with linkParams := p }
    else refuse 0x75#8 .badParam s) s

/-- READ_LINK_PARAMETERS (R171). -/
def execReadLinkParameters (s : State) : Host.Outcome State Fault Refusal :=
  whenLive (fun s => readOut 0x76#8 s.linkParams.bytes s) s

/-- READ LINK STATE data-out (R171, R182). -/
def linkStateBytes (s : State) : List Byte :=
  [s.link.state.code,
   bitAt s.link.enable 0 ||| bitAt s.link.joinSuspended 1 ||| bitAt s.standby.resendException 2,
   s.link.session, BitVec.ofNat 8 s.link.retry, s.link.ackPoint, s.link.sendPoint, s.link.cursor,
   s.standby.receiveNext, s.standby.appliedNext, s.link.lastLoss.code, peerPartCode s.link.peerPart]

/-- READ_LINK_STATE (R89, R171). -/
def execReadLinkState (s : State) : Host.Outcome State Fault Refusal := whenLive (fun s => readOut 0x77#8 (linkStateBytes s) s) s

/-! ## Checkpoints and journal (R44, R142, R146, R147) -/

/-- A slot opens and its MARK joins the journal (R33, R142). -/
def openCheckpoint (i : SlotId) (tag : Byte) (s : State) : State :=
  placeMark { body := .mark tag i, state := .pending }
    { s with slots := s.slots.set i { state := .opened, tag := tag, taint := !allInSync s } }

/-- CHECKPOINT as judged by R142. -/
def checkpoint (tag : Byte) (s : State) : State :=
  if s.role.activeSide = false then refuse 0x80#8 .wrongRole s
  else if s.link.state.associated = false then refuse 0x80#8 .linkDown s
  else if takeoverSent s then refuse 0x80#8 .busy s
  else
    match lowestFreeSlot s with
    | none => refuse 0x80#8 .full s
    | some i =>
      if freeEntries s = 0 then refuse 0x80#8 .full s
      else answer 0x80#8 .ok i [] (settle s (openCheckpoint i tag s))

/-- CHECKPOINT (R142). -/
def execCheckpoint (tag : Byte) (s : State) : Host.Outcome State Fault Refusal := whenLive (checkpoint tag) s

/-- READ_CHECKPOINTS (R147). -/
def execReadCheckpoints (s : State) : Host.Outcome State Fault Refusal :=
  whenLive (fun s => readOut 0x81#8 (s.slots.toList.flatMap Slot.bytes) s) s

/-- RELEASE CHECKPOINT as judged by R146. -/
def releaseCheckpoint (slot : Byte) (s : State) : State :=
  match slotOf slot with
  | none => refuse 0x82#8 .badParam s
  | some i =>
    match s.slots[i].state with
    | .free | .opened => refuse 0x82#8 .badParam s
    | .done | .failed => accept 0x82#8 { s with slots := s.slots.set i Slot.reset }

/-- RELEASE_CHECKPOINT (R146). -/
def execReleaseCheckpoint (slot : Byte) (s : State) : Host.Outcome State Fault Refusal := whenLive (releaseCheckpoint slot) s

/-- One count of the journal's entries, as a data-out byte. -/
def countByte (s : State) (p : Entry → Bool) : Byte := BitVec.ofNat 8 (s.journal.countP p)

/-- READ JOURNAL SUMMARY data-out (R44, R182). -/
def journalBytes (s : State) : List Byte :=
  [countByte s fun e => e.state == .filling, countByte s fun e => e.state == .pending, countByte s fun e => e.state.isSent,
   countByte s fun e => match e.body with | .write _ _ _ => true | .fill _ _ _ | .mark _ _ | .takeover => false,
   countByte s fun e => match e.body with | .fill _ _ _ => true | .write _ _ _ | .mark _ _ | .takeover => false,
   countByte s fun e => match e.body with | .mark _ _ => true | .write _ _ _ | .fill _ _ _ | .takeover => false,
   countByte s fun e => e.body.isTakeover, BitVec.ofNat 8 (freeEntries s)]

/-- READ_JOURNAL_SUMMARY (R44). -/
def execReadJournalSummary (s : State) : Host.Outcome State Fault Refusal :=
  whenLive (fun s => readOut 0x84#8 (journalBytes s) s) s

/-! ## Statistics and path parameters (R172, R173, R175) -/

/-- READ STATISTICS as judged by R175: the group is taken and, with the clear flag, cleared in the same event. -/
def readStatistics (selector clear : Byte) (s : State) : State :=
  if 1 < clear.toNat then refuseRead 0x88#8 28 s
  else
    match windowOf selector with
    | some w =>
      readOut 0x88#8 s.windowStats[w].bytes (if clear = 1#8 then withWindowStats w WindowStats.reset s else s)
    | none =>
      if selector = 8#8 then
        readOut 0x88#8 s.linkStats.bytes (if clear = 1#8 then { s with linkStats := LinkStats.reset } else s)
      else refuseRead 0x88#8 28 s

/-- READ_STATISTICS (R175). -/
def execReadStatistics (selector clear : Byte) (s : State) : Host.Outcome State Fault Refusal :=
  whenLive (readStatistics selector clear) s

/-- WRITE PATH PARAMETERS as judged by R172.  DESIGN CHOICE: the new reserve judges from this event on whether a WAITING engine makes
its first-read request, so that a lowered one may have it requested here (log entry 27); a raised one withdraws no standing request. -/
def writePathParameters (p : PathParams) (s : State) : State :=
  if p.inRange then accept 0x8A#8 (settle s { s with pathParams := p }) else refuse 0x8A#8 .badParam s

/-- WRITE_PATH_PARAMETERS (R172). -/
def execWritePathParameters (stall : BitVec 16) (fairness reserve handoverTime : Byte) (s : State) :
    Host.Outcome State Fault Refusal :=
  whenLive
    (writePathParameters { stall := stall, fairness := fairness, reserve := reserve, handoverTime := handoverTime }) s

/-- READ_PATH_PARAMETERS (R172). -/
def execReadPathParameters (s : State) : Host.Outcome State Fault Refusal :=
  whenLive (fun s => readOut 0x8B#8 s.pathParams.bytes s) s

/-- READ_IDENTIFICATION (R173). -/
def execReadIdentification (s : State) : Host.Outcome State Fault Refusal :=
  whenLive (fun s => readOut 0xE0#8 identification s) s

/-! ## Transfers without a command (R163, R164) -/

/-- FRAMING: the command code is the code byte if eight bits of it were shifted, else 00h (R164). -/
def execFraming (code : Option Byte) (s : State) : Host.Outcome State Fault Refusal :=
  whenLive (refuse (code.getD 0#8) .framing) s

/-- UNKNOWN: the command code is the unknown code (R164). -/
def execUnknown (code : Byte) (s : State) : Host.Outcome State Fault Refusal := whenLive (refuse code .unknown) s

end Sys2Proof.Machine
end

