-- ==== Sys2Proof/Machine/Receive.lean ====
section
/-! DEFINITION. What a received frame does: FRAME_DISCARD and the nine kinds (R50, R51, R54, R56, R58, R60, R71 to R73, R81 to
R83, R92 to R94, R99, R133, R138). -/

namespace Sys2Proof.Machine

open Sys2Proof

/-- A discarded body is counted and does nothing else; in OFFLINE the line is not examined (R50). -/
def discardFrame (s : State) : State :=
  if s.link.state = .offline then s else { s with linkStats.discarded := s.linkStats.discarded + 1 }

/-- FRAME_DISCARD (R50, R178). -/
def execFrameDiscard (_how : DiscardCause) (s : State) : Host.Outcome State Fault Refusal := whenLive discardFrame s

/-! ## Association frames -/

/-- JOIN (R51, R56, R58). -/
def receiveJoin (session : Byte) (s : State) : State :=
  match s.link.state with
  | .idle => answerJoin session s
  | .joining => denyConflict session s
  | .up | .recovery =>
    if s.role.activeSide then denyConflict session (heard s)
    else if s.link.acceptRepeat && session == s.link.session then sendFrame (.accept session) (heard s)
    else answerJoin session (enterLinkState .idle (standbyLoss .peerRejoin none s))
  | .leaving | .offline => s

/-- JOIN_RECEIVED (R56). -/
def execJoinReceived (session : Byte) (s : State) : Host.Outcome State Fault Refusal := whenLiveSettled (receiveJoin session) s

/-- ACCEPT (R51, R54). -/
def receiveAccept (session : Byte) (s : State) : State :=
  match s.link.state with
  | .idle => sendClosed s
  | .joining => if session = s.link.session then enterUpActive s else s
  | .up | .recovery => heardOther s
  | .leaving | .offline => s

/-- ACCEPT_RECEIVED (R54). -/
def execAcceptReceived (session : Byte) (s : State) : Host.Outcome State Fault Refusal :=
  whenLiveSettled (receiveAccept session) s

/-- A matching DENY (R54). -/
def deniedJoin (reason : DenyReason) (s : State) : State :=
  let s := enterLinkState .idle (stopReply { s with link.retry := 0 })
  match reason with
  | .roleConflict => setCause .roleConflict { s with link.joinSuspended := true }
  | .noRole | .roleChanging => setCause .joinDenied s

/-- DENY (R51, R54). -/
def receiveDeny (session : Byte) (reason : DenyReason) (s : State) : State :=
  match s.link.state with
  | .joining => if session = s.link.session then deniedJoin reason s else s
  | .up | .recovery => heardOther s
  | .idle | .leaving | .offline => s

/-- DENY_RECEIVED (R54). -/
def execDenyReceived (session : Byte) (reason : DenyReason) (s : State) : Host.Outcome State Fault Refusal :=
  whenLiveSettled (receiveDeny session reason) s

/-- PART (R51, R60). -/
def receivePart (reason : PartReason) (s : State) : State :=
  match s.link.state with
  | .idle | .joining => sendClosed s
  | .up | .recovery => loseLink .peerPart (some reason) (sendClosed s)
  | .leaving | .offline => s

/-- PART_RECEIVED (R60). -/
def execPartReceived (reason : PartReason) (s : State) : Host.Outcome State Fault Refusal :=
  whenLiveSettled (receivePart reason) s

/-- CLOSED (R51, R60, R61). -/
def receiveClosed (s : State) : State :=
  match s.link.state with
  | .up | .recovery => loseLink .peerClosed none s
  | .leaving => endLeaving s
  | .idle | .joining | .offline => s

/-- CLOSED_RECEIVED (R60). -/
def execClosedReceived (s : State) : Host.Outcome State Fault Refusal := whenLiveSettled receiveClosed s

/-! ## Records at the standby -/

/-- A record taken into the apply queue (R92): at occupancy 12 the hold state becomes HOLD and an ACK is decided (R100).  A
record that makes the queue non-empty is taken by the engine in the same event (R95). -/
def queueRecord (tseq : Byte) (r : Record) (s : State) : State :=
  let queue := s.standby.queue ++ [{ tseq := tseq, record := r }]
  let taken :=
    { s with
      standby.queue := queue, standby.receiveNext := s.standby.receiveNext + 1, standby.resendException := false }
  let flowed :=
    if queue.length = Config.holdAt ∧ s.standby.holding = false then sendAck false { taken with standby.holding := true }
    else taken
  if s.standby.queue.isEmpty && s.standby.engine == .idle then takeRecord flowed else flowed

/-- A record not taken: the first discard of an exception sets the flag and decides a RESEND (R93). -/
def discardRecord (s : State) : State :=
  if s.standby.resendException then s else sendResend { s with standby.resendException := true }

/-- REC (R51, R92, R93).  A body whose record is not valid is no REC and is discarded (R50). -/
def receiveRec (tseq : Byte) (r : Record) (s : State) : State :=
  if r.valid then
    match s.link.state with
    | .idle | .joining => sendClosed s
    | .up =>
      let s := heardOther s
      if s.role.activeSide then s
      else if tseq = s.standby.receiveNext ∧ s.standby.queue.length < Config.queueRecords then queueRecord tseq r s
      else discardRecord s
    | .recovery => heardOther s
    | .leaving | .offline => s
  else discardFrame s

/-- REC_RECEIVED (R92). -/
def execRecReceived (tseq : Byte) (r : Record) (s : State) : Host.Outcome State Fault Refusal :=
  whenLiveSettled (receiveRec tseq r) s

/-- ASK (R51, R99, R138). -/
def receiveAsk (s : State) : State :=
  match s.link.state with
  | .idle | .joining => sendClosed s
  | .up =>
    let s := heardOther s
    if s.role.activeSide then
      match s.keptSwap with
      | some aseq => sendFrame (.ack aseq true false true) s
      | none => s
    else sendAck true s
  | .recovery => heardOther s
  | .leaving | .offline => s

/-- ASK_RECEIVED (R99). -/
def execAskReceived (s : State) : Host.Outcome State Fault Refusal := whenLiveSettled receiveAsk s

/-! ## Acknowledgements at the active side -/

/-- The reply timer after an ACK in UP (R72, R75). -/
def replyAfterAck (advanced : Bool) (s : State) : State :=
  if sentEntries s = 0 then stopReply s else if advanced then startReply s else s

/-- A valid ACK in UP (R72). -/
def ackInUp (aseq : Byte) (hold : Bool) (s : State) : State :=
  replyAfterAck (aseq != s.link.ackPoint) { removeAcknowledged aseq s with link.peerHold := hold }

/-- A valid FINAL ACK ends RECOVERY, with a go-back to A where entries remain SENT (R81). -/
def ackEndsRecovery (aseq : Byte) (hold : Bool) (s : State) : State :=
  let s := enterLinkState .up { removeAcknowledged aseq s with link.peerHold := hold, link.retry := 0 }
  if sentEntries s = 0 then stopReply s else startReply { s with link.cursor := s.link.ackPoint }

/-- A valid ACK without FINAL in RECOVERY (R82).  That a cursor before the new A moves up to it, by the removal, is log entry 29. -/
def ackInRecovery (aseq : Byte) (hold : Bool) (s : State) : State :=
  { removeAcknowledged aseq s with link.peerHold := hold }

/-- A valid ACK: a removed TAKEOVER completes the handover (R133); else it is taken by link state and FINAL flag. -/
def takeAck (aseq : Byte) (final hold : Bool) (s : State) : State :=
  if coversTakeover s aseq then completeHandover (removeAcknowledged aseq s)
  else if s.link.state = .recovery then
    if final then ackEndsRecovery aseq hold s else ackInRecovery aseq hold s
  else ackInUp aseq hold s

/-- ACK (R51, R71). -/
def receiveAck (aseq : Byte) (final hold swap : Bool) (s : State) : State :=
  match s.link.state with
  | .idle | .joining => sendClosed s
  | .up | .recovery =>
    if s.role.activeSide then
      if ackValid s aseq swap then takeAck aseq final hold (heardOther s) else loseLink .sequence none s
    else heardOther s
  | .leaving | .offline => s

/-- ACK_RECEIVED (R72). -/
def execAckReceived (aseq : Byte) (final hold swap : Bool) (s : State) : Host.Outcome State Fault Refusal :=
  whenLiveSettled (receiveAck aseq final hold swap) s

/-- A valid RESEND: removal, peer-hold and the cursor; in UP the reply timer restarts or stops, in RECOVERY it runs on (R73,
R83). -/
def takeResend (aseq rseq : Byte) (hold : Bool) (s : State) : State :=
  let s :=
    { removeAcknowledged aseq s with
      link.peerHold := hold, link.cursor := rseq, linkStats.resendReceived := s.linkStats.resendReceived + 1 }
  if s.link.state = .recovery then s
  else if sentEntries s = 0 then stopReply s else startReply s

/-- RESEND (R51, R71). -/
def receiveResend (aseq rseq : Byte) (hold : Bool) (s : State) : State :=
  match s.link.state with
  | .idle | .joining => sendClosed s
  | .up | .recovery =>
    if s.role.activeSide then
      if resendValid s aseq rseq then takeResend aseq rseq hold (heardOther s) else loseLink .sequence none s
    else heardOther s
  | .leaving | .offline => s

/-- RESEND_RECEIVED (R73). -/
def execResendReceived (aseq rseq : Byte) (hold : Bool) (s : State) : Host.Outcome State Fault Refusal :=
  whenLiveSettled (receiveResend aseq rseq hold) s

end Sys2Proof.Machine
end

