-- ==== Sys2Proof/Machine/Resets.lean ====
section
/-! DEFINITION. SOFT RESET, the RESET# pin and its release (R21, R43, R67, R106, R119, R140, R148, R160, R161, R165, R176). -/

namespace Sys2Proof.Machine

open Sys2Proof

/-- The downstream access under way at a soft reset: an upstream access goes on, an internal one completes without effect on
its owner (R160). -/
def dropInternal (p : PortAccess) : PortAccess :=
  match p.owner with
  | .upstream => p
  | .resync | .apply | .dropped => { p with owner := .dropped }

/-- SOFT RESET (R176): dynamic state as after RESET#; the windows, the parameters, the mask and the statistics are kept, the
frame being sent is completed and no later one is sent (R67), a held write is re-presented (R21). -/
def softReset (s : State) : State :=
  { representHeld s with
    stallTimer := none, journal := [], link := { Link.reset with tx := s.link.tx }, standby := Standby.reset,
    maps := Vector.replicate 8 0#64, resync := .idle, role := .unassigned, handoverTimer := none, keptSwap := none,
    slots := Vector.replicate 4 Slot.reset, port := s.port.map dropInternal, upstreamRun := 0, causes := 0#16 }

/-- SOFT_RESET (R176): the last command result becomes OK, F0h, slot 0. -/
def execSoftReset (s : State) : Host.Outcome State Fault Refusal := whenLive (fun s => accept 0xF0#8 (softReset s)) s

/-- The memory after RESET#: an abandoned downstream write has reached it or not, by a free value (R161). -/
def memoryAfterAbandon (s : State) : List Host.Cell :=
  match s.port with
  | some p =>
    match p.access.kind with
    | .write => if Config.abandonedWriteLands s.freeCount then memoryAfter s p.access else s.mem
    | .read => s.mem
  | none => s.mem

/-- RESET# falls: every block takes its initial state and stays in it while RESET# is low; nothing under way is given an ending
(R161, R165). -/
def pinReset (s : State) : State :=
  { State.reset with
    mem := memoryAfterAbandon s, resetLow := true, freeCount := s.freeCount + 1, pending := s.pending }

/-- RESET_PIN (R161). -/
def execResetPin (s : State) : Host.Outcome State Fault Refusal := .next (pinReset s)

/-- RESET# rises.  With CS# already low the port waits for it to go high (R165). -/
def releaseReset (csLow : Bool) (s : State) : State :=
  if s.resetLow then { s with resetLow := false, spi := if csLow then .waitHigh else .closed } else s

/-- RESET_RELEASE (R165). -/
def execResetRelease (csLow : Bool) (s : State) : Host.Outcome State Fault Refusal := .next (releaseReset csLow s)

end Sys2Proof.Machine
end

