-- ==== Sys2Proof/Machine/Dispatch.lean ====
section
/-! DEFINITION. One arm for each command: the call of its meaning. -/

namespace Sys2Proof.Machine

open Sys2Proof

def exec (i : Instr) (s : State) : Host.Outcome State Fault Refusal :=
  match i with
  | .upstreamPresentation a => Sys2Proof.Machine.execUpstreamPresentation a s
  | .arbiterGrant => Sys2Proof.Machine.execArbiterGrant s
  | .downstreamCompletion => Sys2Proof.Machine.execDownstreamCompletion s
  | .applyTakeRecord => Sys2Proof.Machine.execApplyTakeRecord s
  | .stallLimitExpiry => Sys2Proof.Machine.execStallLimitExpiry s
  | .rejoinDelayExpiry => Sys2Proof.Machine.execRejoinDelayExpiry s
  | .replyTimerExpiry => Sys2Proof.Machine.execReplyTimerExpiry s
  | .quietTimerExpiry => Sys2Proof.Machine.execQuietTimerExpiry s
  | .silenceTimerExpiry => Sys2Proof.Machine.execSilenceTimerExpiry s
  | .handoverTimerExpiry => Sys2Proof.Machine.execHandoverTimerExpiry s
  | .recDecision => Sys2Proof.Machine.execRecDecision s
  | .frameTransmissionEnd => Sys2Proof.Machine.execFrameTransmissionEnd s
  | .frameDiscard how => Sys2Proof.Machine.execFrameDiscard how s
  | .joinReceived session => Sys2Proof.Machine.execJoinReceived session s
  | .acceptReceived session => Sys2Proof.Machine.execAcceptReceived session s
  | .denyReceived session reason => Sys2Proof.Machine.execDenyReceived session reason s
  | .partReceived reason => Sys2Proof.Machine.execPartReceived reason s
  | .closedReceived => Sys2Proof.Machine.execClosedReceived s
  | .recReceived tseq r => Sys2Proof.Machine.execRecReceived tseq r s
  | .ackReceived aseq final hold swap => Sys2Proof.Machine.execAckReceived aseq final hold swap s
  | .resendReceived aseq rseq hold => Sys2Proof.Machine.execResendReceived aseq rseq hold s
  | .askReceived => Sys2Proof.Machine.execAskReceived s
  | .readStatus => Sys2Proof.Machine.execReadStatus s
  | .readCauses => Sys2Proof.Machine.execReadCauses s
  | .clearCauses named => Sys2Proof.Machine.execClearCauses named s
  | .writeCauseMask newMask => Sys2Proof.Machine.execWriteCauseMask newMask s
  | .readCauseMask => Sys2Proof.Machine.execReadCauseMask s
  | .readWindow number => Sys2Proof.Machine.execReadWindow number s
  | .writeWindow number mode base sizeExp policy => Sys2Proof.Machine.execWriteWindow number mode base sizeExp policy s
  | .readTrackMap number => Sys2Proof.Machine.execReadTrackMap number s
  | .markWindow number first last => Sys2Proof.Machine.execMarkWindow number first last s
  | .setRole target => Sys2Proof.Machine.execSetRole target s
  | .promote force => Sys2Proof.Machine.execPromote force s
  | .handover => Sys2Proof.Machine.execHandover s
  | .linkControlEnable operation => Sys2Proof.Machine.execLinkControlEnable operation s
  | .linkControlDisable operation => Sys2Proof.Machine.execLinkControlDisable operation s
  | .writeLinkParameters window reply retries quiet rejoin => Sys2Proof.Machine.execWriteLinkParameters window reply retries quiet rejoin s
  | .readLinkParameters => Sys2Proof.Machine.execReadLinkParameters s
  | .readLinkState => Sys2Proof.Machine.execReadLinkState s
  | .checkpoint tag => Sys2Proof.Machine.execCheckpoint tag s
  | .readCheckpoints => Sys2Proof.Machine.execReadCheckpoints s
  | .releaseCheckpoint slot => Sys2Proof.Machine.execReleaseCheckpoint slot s
  | .readJournalSummary => Sys2Proof.Machine.execReadJournalSummary s
  | .readStatistics selector clear => Sys2Proof.Machine.execReadStatistics selector clear s
  | .writePathParameters stall fairness reserve handoverTime => Sys2Proof.Machine.execWritePathParameters stall fairness reserve handoverTime s
  | .readPathParameters => Sys2Proof.Machine.execReadPathParameters s
  | .readIdentification => Sys2Proof.Machine.execReadIdentification s
  | .softReset => Sys2Proof.Machine.execSoftReset s
  | .framing code => Sys2Proof.Machine.execFraming code s
  | .unknown code => Sys2Proof.Machine.execUnknown code s
  | .resetPin => Sys2Proof.Machine.execResetPin s
  | .resetRelease csLow => Sys2Proof.Machine.execResetRelease csLow s

end Sys2Proof.Machine
end

