-- ==== Sys2Proof/Machine/Pins.lean ====
section
/-! DEFINITION. The pins: how the symbols of the mirror link, the edges of the management port and the output pins go with the
state (R49, R50, R151, R162, R163, R165, R169, R178).  A command that the pins complete joins the waiting commands. -/

namespace Sys2Proof.Machine

open Sys2Proof

/-- A command joins the waiting commands. -/
def enqueue (i : Instr) (s : State) : State := { s with pending := s.pending ++ [i] }

/-! ## The mirror link line (R178) -/

/-- What the receiver makes of a code group (section 11.1). -/
inductive LineSymbol
  | data (b : Byte)
  | fs
  | fe
  | idl
  | violation
  deriving DecidableEq, Repr

/-- The event that a body closed by FE is (R50). -/
def bodyEvent (body : List Byte) : Instr :=
  match decodeBody body with
  | some f => f.received
  | none => .frameDiscard (.failedTest body)

/-- The receiver assembles bodies from the line in every link state other than OFFLINE (R178). -/
def receiveSymbol (x : LineSymbol) (s : State) : State :=
  if s.resetLow || s.link.state == .offline then { s with link.rxBody := none }
  else
    match s.link.rxBody, x with
    | none, .fs => { s with link.rxBody := some [] }
    | none, .data _ | none, .fe | none, .idl | none, .violation => s
    | some body, .data b => { s with link.rxBody := some (body ++ [b]) }
    | some body, .fe => enqueue (bodyEvent body) { s with link.rxBody := none }
    | some _, .fs => enqueue (.frameDiscard .secondStart) { s with link.rxBody := some [] }
    | some _, .idl | some _, .violation => enqueue (.frameDiscard .brokenOff) { s with link.rxBody := none }

/-- A frame on the line: FS, the body bytes in order, FE (R178). -/
def frameSymbols (f : Frame) : List LineSymbol := .fs :: f.body.map .data ++ [.fe]

/-- What the transmitter puts on the line: the frame being sent and the IDL that follows it, or IDL where no frame is due
(R49, R178). -/
def lineOut (s : State) : List LineSymbol :=
  match s.link.tx with
  | some f => frameSymbols f ++ [.idl]
  | none => [.idl]

/-! ## The management port (R162, R163, R165) -/

/-- CS# falls: a transfer opens, unless RESET# is low or the port waits for CS# to go high.  SDO carries 00h while the code byte is
shifted. -/
def csFall (s : State) : State :=
  if s.resetLow then s
  else
    match s.spi with
    | .closed => { s with spi := .shifting { bytes := [], bits := [], taken := false, clocked := false, sdo := false } }
    | .waitHigh | .shifting _ => s

/-- Eight bits, most significant first, as a byte. -/
def byteOfBits (bits : List Bool) : Byte :=
  bits.foldl (fun b x => (b <<< 1) ||| (BitVec.ofBool x).setWidth 8) 0#8

/-- The command with data-out that takes effect at this byte boundary: its last parameter byte has just been shifted (R163). -/
def effectAt (bytes : List Byte) : Option Instr :=
  match bytes with
  | [] => none
  | code :: params =>
    match commandShape code with
    | some (nParams, nDataOut) =>
      if nDataOut ≠ 0 ∧ params.length = nParams then decodeCommand code params else none
    | none => none

/-- A rising edge of SCK samples SDI (R162). -/
def sckRise (bit : Bool) (s : State) : State :=
  if s.resetLow then s
  else
    match s.spi with
    | .shifting x =>
      let x := { x with clocked := true }
      if (x.bits ++ [bit]).length = 8 then
        let whole := { x with bytes := x.bytes ++ [byteOfBits (x.bits ++ [bit])], bits := [] }
        match x.taken, effectAt whole.bytes with
        | false, some i => enqueue i { s with spi := .shifting { whole with taken := true } }
        | _, _ => { s with spi := .shifting whole }
      else { s with spi := .shifting { x with bits := x.bits ++ [bit] } }
    | .closed | .waitHigh => s

/-- The parameter bytes of the command a transfer carries. -/
def transferParams (bytes : List Byte) : Nat :=
  match bytes with
  | [] => 0
  | code :: _ =>
    match commandShape code with
    | some (n, _) => n
    | none => 0

/-- The bit that SDO shows next, most significant bit of a byte first: 0 while code and parameters are shifted and after the last
data-out byte, and the data-out's bits between (R162). -/
def nextSdo (x : Transfer) (data : List Byte) : Bool :=
  x.taken && (data.getD (x.bytes.length - (1 + transferParams x.bytes)) 0#8).getLsbD (7 - x.bits.length)

/-- A falling edge of SCK changes SDO (R162).  The command that the edge before completed has run by then, as it takes effect at that
edge (R163; log entry 25). -/
def sckFall (s : State) : State :=
  if s.resetLow then s
  else
    match s.spi with
    | .shifting x => { s with spi := .shifting { x with clocked := true, sdo := nextSdo x s.dataOut } }
    | .closed | .waitHigh => s

/-- CS# rises: the transfer closes, as the command, FRAMING or UNKNOWN it is, or as the end of a data-out (R163); a port that
waited for it opens at the next fall (R165).  A falling edge of SCK alone makes the transfer one with an edge, and so FRAMING
(DEDUCED; log entry 26). -/
def csRise (s : State) : State :=
  if s.resetLow then s
  else
    match s.spi with
    | .closed => s
    | .waitHigh => { s with spi := .closed }
    | .shifting x =>
      let s := { s with spi := .closed }
      if x.taken then s
      else
        match decodeTransfer x.bytes (!x.bits.isEmpty || (x.clocked && x.bytes.isEmpty)) with
        | some i => enqueue i s
        | none => s

/-- SDO: high impedance while CS# is high or RESET# low, else the level the last falling edge of SCK gave it, low before the first
(R162, R165).  DESIGN CHOICE: high impedance too while CS# is low and the port waits for it to go high, where the manual says nothing
of SDO (log entry 24). -/
def sdo (s : State) : Option Bool :=
  if s.resetLow then none
  else
    match s.spi with
    | .closed | .waitHigh => none
    | .shifting x => some x.sdo

/-! ## The upstream bus (R151) -/

/-- The upstream bus is extended from presentation to ending. -/
def upstreamExtended (s : State) : Bool := s.upstream != .none

end Sys2Proof.Machine
end

