-- ==== Sys2Proof/Safety.lean ====
section
/-! DEFINITION. What the manual says holds of the part at all times, as checks of a state.  The invariants that the statements
speak of are these. -/

namespace Sys2Proof.Machine

open Sys2Proof

/-! ## The journal (R22, R25, R26, R34) -/

/-- SENT entries carry consecutive sequences from `a`, and none stands after a PENDING or FILLING entry (R25). -/
def sentInOrder (a : Byte) : List Entry → Bool
  | [] => true
  | e :: rest =>
    match e.state with
    | .sent q _ => q == a && sentInOrder (a + 1) rest
    | .filling | .pending => rest.all fun x => !x.state.isSent

/-- The journal holds at most 64 entries (R22). -/
def journalFits (s : State) : Bool := decide (s.journal.length ≤ Config.journalEntries)

/-- The journal holds entries only on the active side of an association (R26). -/
def journalHome (s : State) : Bool := s.journal.isEmpty || (s.role.activeSide && s.link.state.associated)

/-- The order and the sequences of the SENT entries, with S = A + k while an association exists (R25, R68). -/
def journalOrdered (s : State) : Bool :=
  sentInOrder s.link.ackPoint s.journal &&
  (!(s.role.activeSide && s.link.state.associated) ||
    s.link.sendPoint == s.link.ackPoint + BitVec.ofNat 8 (sentEntries s)) &&
  decide (sentEntries s ≤ 32)

/-- The journal holds at most one TAKEOVER, youngest, and only in the role HANDING_OVER; that role has one (R34). -/
def takeoverPlace (s : State) : Bool :=
  s.journal.dropLast.all (fun e => !e.body.isTakeover) &&
  (s.journal.any (fun e => e.body.isTakeover) == (s.role == .handingOver))

/-- Only FILL entries are FILLING, and there is one exactly while the engine is READING (R23, R112). -/
def fillingMatches (s : State) : Bool :=
  s.journal.all (fun e => e.state != .filling || windowIds.any fun w => e.body.isFillOf w) &&
  ((s.journal.countP fun e => e.state == .filling) == if s.resync.filling then 1 else 0)

/-! ## The link (R45, R52) -/

/-- The quiet timer stands stopped but on the active side of an association (R77); the reply timer runs there, in JOINING and in
LEAVING alone (R53, R61, R75, R76). -/
def linkTimersFit (s : State) : Bool :=
  (match s.link.quietTimer with
    | .stopped => true
    | .running _ | .expired => s.role.activeSide && s.link.state.associated) &&
  (s.link.replyTimer.isNone || s.link.state == .joining || s.link.state == .leaving ||
    (s.role.activeSide && s.link.state.associated))

/-- JOINING and RECOVERY belong to the active side, and HANDING_OVER to an association (R7, R45); the link's timers run where they
may. -/
def linkFitsRole (s : State) : Bool :=
  linkTimersFit s &&
  (match s.link.state with
    | .joining => s.role == .active
    | .recovery => s.role.activeSide
    | .up => s.role.activeSide || s.role == .standby
    | .offline | .idle | .leaving => true) &&
  (s.role != .handingOver || s.link.state.associated)

/-- The rejoin delay timer runs exactly while the conditions of R52 hold. -/
def rejoinMatches (s : State) : Bool := s.link.rejoinTimer.isSome == joinConditions s

/-- The retry count is at most 15 (R45). -/
def retryFits (s : State) : Bool := decide (s.link.retry ≤ 15)

/-- A waiting frame waits for one that is being sent (R49). -/
def transmitterBusy (s : State) : Bool := s.link.tx.isSome || s.link.txQueue.isEmpty

/-! ## The standby side (R90, R91, R100) -/

/-- The queue's records carry consecutive TSEQ values from `p` (R91). -/
def queueInOrder (p : Byte) : List Received → Bool
  | [] => true
  | r :: rest => r.tseq == p && queueInOrder (p + 1) rest

/-- The apply queue: at most 16 records, its occupancy R − P modulo 256, TSEQ ascending from P, and non-empty only in STANDBY
and PROMOTING (R91). -/
def queueSound (s : State) : Bool :=
  decide (s.standby.queue.length ≤ Config.queueRecords) &&
  s.standby.receiveNext == s.standby.appliedNext + BitVec.ofNat 8 s.standby.queue.length &&
  queueInOrder s.standby.appliedNext s.standby.queue &&
  (s.standby.queue.isEmpty || s.role == .standby || s.role == .promoting)

/-- HOLD stands at occupancies 5 to 16, READY at 0 to 11 (R100). -/
def holdFits (s : State) : Bool :=
  if s.standby.holding then decide (Config.readyAt < s.standby.queue.length)
  else decide (s.standby.queue.length < Config.holdAt)

/-! ## Tracks and windows (R1, R108, R112) -/

/-- Every base is a multiple of its window's size (R1). -/
def basesAligned (s : State) : Bool := windowIds.all fun w => s.windows[w].base.toNat % s.windows[w].size == 0

/-- A map is non-empty only for a MIRROR window on an ACTIVE or HANDING_OVER part (R108). -/
def mapsHome (s : State) : Bool :=
  windowIds.all fun w => s.maps[w] == 0#64 || (s.windows[w].mode == .mirror && s.role.activeSide)

/-- The resync engine is IDLE on any part whose role is not ACTIVE, and its walk lies in a MIRROR window (R112, R118). -/
def resyncHome (s : State) : Bool :=
  (s.resync == .idle || s.role == .active) &&
  (match s.resync.walk with
    | some p =>
      s.windows[p.window].mode == .mirror && decide (p.track < 64) && decide (p.offset < s.windows[p.window].trackLines)
    | none => true)

/-- A WAITING engine requests its first read only while it may run: the role is ACTIVE and the link UP (R113, R114). -/
def requestFits (s : State) : Bool :=
  match s.resync with
  | .waiting _ true => resyncMayRun s
  | .waiting _ false | .reading _ _ | .idle => true

/-! ## Checkpoints (R141) -/

/-- Every OPEN slot has exactly one MARK with its tag in the journal, and a slot that is not OPEN none; a FREE slot holds
tag 0 and a clear taint (R141). -/
def slotsMatch (s : State) : Bool :=
  ([0, 1, 2, 3] : List SlotId).all fun i =>
    (s.journal.countP fun e => match e.body with
      | .mark _ j => j == i
      | .write _ _ _ | .fill _ _ _ | .takeover => false) == (if s.slots[i].state = .opened then 1 else 0) &&
    s.journal.all (fun e => match e.body with
      | .mark t j => j != i || t == s.slots[i].tag
      | .write _ _ _ | .fill _ _ _ | .takeover => true) &&
    (s.slots[i].state != .free || s.slots[i] == Slot.reset)

/-! ## The word bus (R11, R151, R154, R156) -/

/-- The upstream access is IN_PROGRESS exactly while the port carries it (R151, R154). -/
def portMatches (s : State) : Bool :=
  (match s.upstream with
    | .inProgress _ => true
    | .none | .requesting _ _ | .held _ _ _ => false) == portOwnedBy s .upstream

/-- The stall limit timer runs exactly while a write is held with reason STALL (R11, R13). -/
def stallMatches (s : State) : Bool :=
  s.stallTimer.isSome == (match s.upstream with
    | .held _ _ .stall => true
    | .held _ _ .handover | .none | .requesting _ _ | .inProgress _ => false)

/-- The upstream run lies in 0 to 15 (R156). -/
def runFits (s : State) : Bool := decide (s.upstreamRun ≤ 15)

/-- The parameters lie in their ranges (R46, R172). -/
def paramsInRange (s : State) : Bool := s.linkParams.inRange && s.pathParams.inRange

/-- The retentive memory keeps its canonical form. -/
def memoryCanonical (s : State) : Bool := Memory.wf s.mem

/-! ## A safe part -/

/-- Every check above. -/
def safe (s : State) : Bool :=
  journalFits s && journalHome s && journalOrdered s && takeoverPlace s && fillingMatches s && linkFitsRole s &&
  rejoinMatches s && retryFits s && transmitterBusy s && queueSound s && holdFits s && basesAligned s && mapsHome s &&
  resyncHome s && requestFits s && slotsMatch s && portMatches s && stallMatches s && runFits s && paramsInRange s && memoryCanonical s

end Sys2Proof.Machine
end

