-- ==== Sys2Proof/WellFormed.lean ====
section
/-! DEFINITION. Which terms of `Instr` the manual's interfaces can give.  The operands are bytes and fields as they cross the
pins, so that almost every term is one; the checks below name the rest. -/

namespace Sys2Proof

/-- A code byte at which a transfer can close before its command takes effect: a known code, less the commands that take
effect at the end of their code byte (R163). -/
def framingCode (code : Byte) : Bool :=
  match commandShape code with
  | none => false
  | some (nParams, nDataOut) => nParams != 0 || nDataOut == 0

/-- The check of each command: a REC carries a valid record, a discarded closed body is one that fails R50, LINK CONTROL's
operations stand at their own rows, FRAMING names a command that can be cut short and UNKNOWN a code without a command. -/
def Instr.wellFormed : Instr → Bool
  | .recReceived _ r => r.valid
  | .frameDiscard (.failedTest body) => (decodeBody body).isNone
  | .frameDiscard .secondStart | .frameDiscard .brokenOff => true
  | .linkControlEnable operation => operation == 0x01#8
  | .linkControlDisable operation => operation != 0x01#8
  | .framing code => code.all framingCode
  | .unknown code => (commandShape code).isNone
  | .upstreamPresentation _ | .arbiterGrant | .downstreamCompletion | .applyTakeRecord | .stallLimitExpiry => true
  | .rejoinDelayExpiry | .replyTimerExpiry | .quietTimerExpiry | .silenceTimerExpiry | .handoverTimerExpiry => true
  | .recDecision | .frameTransmissionEnd | .joinReceived _ | .acceptReceived _ | .denyReceived _ _ => true
  | .partReceived _ | .closedReceived | .ackReceived _ _ _ _ | .resendReceived _ _ _ | .askReceived => true
  | .readStatus | .readCauses | .clearCauses _ | .writeCauseMask _ | .readCauseMask | .readWindow _ => true
  | .writeWindow _ _ _ _ _ | .readTrackMap _ | .markWindow _ _ _ | .setRole _ | .promote _ | .handover => true
  | .writeLinkParameters _ _ _ _ _ | .readLinkParameters | .readLinkState | .checkpoint _ => true
  | .readCheckpoints | .releaseCheckpoint _ | .readJournalSummary | .readStatistics _ _ => true
  | .writePathParameters _ _ _ _ | .readPathParameters | .readIdentification | .softReset => true
  | .resetPin | .resetRelease _ => true

end Sys2Proof
end

