-- ==== Sys2Proof/Certificates/Slice0/Obligations.lean ====
section
/-! DEFINITION. The statements about the part, one proposition each.  A statement writes the state an event leaves as a record over
the state it began in, so that what is not named is unchanged: the record is the frame.  `settle before s` is what an event ends with,
`answer` the command record, `sendFrame` a frame decided, `changeRole` a change of role, `endAssociation` a loss procedure,
`removeAcknowledged` a removal and `completeRecord` a record's completion; each of these has a statement of its own here.
Every command statement assumes RESET# high. -/

open Sys2Proof Sys2Proof.Machine

/-! ## The queue and the whole part -/

/-- The part takes the command at the front of its queue and runs it on the state with the queue's rest.  The manual has every event whole, the
others before or after it (R177); that the commands wait in one queue, first in, first out, is the model's choice (log entries 1 and 19). -/
def Obligations.StepRunsFrontCommand : Prop :=
  ∀ (c : Instr) (rest : List Instr) (s : State), step { s with pending := c :: rest } = exec c { s with pending := rest }

/-- Every command of the table answers a next state, in every state, and none touches the waiting commands.  That no command stops
rests on the log's entries 6 and 7: an event without its conditions, and any event while RESET# is low, changes nothing. -/
def Obligations.EveryCommandAnswers : Prop :=
  ∀ (c : Instr) (s : State), ∃ t, exec c s = .next t ∧ t.pending = s.pending

/-- The record a management command leaves (R164): its own code, slot 0 but for an accepted CHECKPOINT, and a command refused changes
nothing else.  A transfer that closes before its command takes effect leaves FRAMING with its code byte or 00h, and one with an unknown code
UNKNOWN with that code (R163).  `answer` stores the result, the code and the slot it is given, and the data-out, and else only ends the port's
wait for CS# to go high.  The data-out in course and the port's transfer are the model's own fields (log entry 16). -/
def Obligations.CommandLeavesItsRecord : Prop :=
  (∀ (c : Instr) (code : Byte) (params : List Byte) (s : State),
     transferBytes c = some (code :: params) → s.resetLow = false →
     ∃ t, exec c s = .next t ∧ t.lastResult.code = code ∧
       (t.lastResult.slot ≠ 0 → (∃ tag, c = .checkpoint tag) ∧ t.lastResult.result = .ok) ∧
       (t.lastResult.result ≠ .ok → { t with lastResult := s.lastResult, dataOut := s.dataOut, spi := s.spi } = s)) ∧
  (∀ s : State, s.resetLow = false →
     exec (.framing none) s = .next (answer 0x00#8 .framing 0 [] s) ∧
     (∀ code : Byte, exec (.framing (some code)) s = .next (answer code .framing 0 [] s)) ∧
     (∀ code : Byte, exec (.unknown code) s = .next (answer code .unknown 0 [] s))) ∧
  (∀ (code : Byte) (r : Result) (slot : SlotId) (data : List Byte) (s : State),
     (answer code r slot data s).lastResult = { result := r, code := code, slot := slot } ∧
     (answer code r slot data s).dataOut = data ∧
     (s.spi ≠ .waitHigh → (answer code r slot data s).spi = s.spi) ∧
     (s.spi = .waitHigh → (answer code r slot data s).spi = .closed) ∧
     { answer code r slot data s with lastResult := s.lastResult, dataOut := s.dataOut, spi := s.spi } = s)

/-- R167: an event makes a cause present and leaves the others; CLEAR CAUSES makes exactly the named causes absent; READ CAUSES
gives the set and changes it not; both resets empty it; nothing else makes a cause absent. -/
def Obligations.CausesAreSticky : Prop :=
  (∀ (c d : Cause) (s : State), hasCause (setCause c s) d = (hasCause s d || decide (d = c))) ∧
  (∀ (named : CauseSet) (s : State), s.resetLow = false →
    ∃ m : CauseSet, exec (.clearCauses named) s = .next (answer 0x52#8 .ok 0 [] { s with causes := m }) ∧
      ∀ d : Cause, m.getLsbD d.position = (hasCause s d && !named.getLsbD d.position)) ∧
  (∀ s : State, s.resetLow = false →
    exec .readCauses s = .next (answer 0x51#8 .ok 0 [s.causes.extractLsb' 8 8, s.causes.extractLsb' 0 8] s)) ∧
  (∀ s t : State, s.resetLow = false → exec .softReset s = .next t → t.causes = 0#16) ∧
  (∀ s t : State, exec .resetPin s = .next t → t.causes = 0#16) ∧
  (∀ (i : Instr) (s t : State), (∀ named, i ≠ .clearCauses named) → i ≠ .softReset → i ≠ .resetPin → exec i s = .next t →
    ∀ d : Cause, hasCause s d = true → hasCause t d = true)

/-- R168: WRITE CAUSE MASK replaces the whole mask, READ CAUSE MASK gives it, the mask hides no cause from READ CAUSES, RESET# makes it
hold all sixteen and SOFT RESET keeps it. -/
def Obligations.CauseMask : Prop :=
  (∀ (m : CauseSet) (s : State), s.resetLow = false →
    exec (.writeCauseMask m) s = .next (answer 0x53#8 .ok 0 [] { s with mask := m })) ∧
  (∀ s : State, s.resetLow = false →
    exec .readCauseMask s = .next (answer 0x54#8 .ok 0 [s.mask.extractLsb' 8 8, s.mask.extractLsb' 0 8] s)) ∧
  (∀ (m : CauseSet) (s : State), s.resetLow = false →
    ∃ t, exec .readCauses { s with mask := m } = .next t ∧ t.dataOut = [s.causes.extractLsb' 8 8, s.causes.extractLsb' 0 8]) ∧
  (∀ (m named : CauseSet) (c : Cause) (s : State), s.resetLow = false →
    hasCause (setCause c { s with mask := m }) c = true ∧
    ∃ t, exec (.clearCauses named) { s with mask := m } = .next t ∧ t.causes = s.causes &&& ~~~named) ∧
  (∀ s : State, ∃ t, exec .resetPin s = .next t ∧ (∀ c : Cause, t.mask.getLsbD c.position = true) ∧ irqAsserted t = false) ∧
  (∀ s : State, s.resetLow = false → ∃ t, exec .softReset s = .next t ∧ t.mask = s.mask)

/-- R169: IRQ# is asserted exactly while a cause outside the mask is present, not while RESET# is low; both resets release it, and READ
STATUS reports it as it stands. -/
def Obligations.InterruptOutput : Prop :=
  (∀ s : State, irqAsserted s = true ↔
    s.resetLow = false ∧ ∃ c : Cause, hasCause s c = true ∧ s.mask.getLsbD c.position = false) ∧
  (∀ s t : State, s.resetLow = false → exec .softReset s = .next t → irqAsserted t = false) ∧
  (∀ s t : State, exec .resetPin s = .next t → irqAsserted t = false) ∧
  (∀ s : State, s.resetLow = false →
    ∃ t b, exec .readStatus s = .next t ∧ t.dataOut[3]? = some b ∧ b.getLsbD 2 = irqAsserted s)

/-- Memory changes in no event but a completion of the port's access, and at RESET#, which leaves it as it was or with the abandoned
write carried out (R150, R153, R161).
That the abandoned word's lanes land together is log entry 3. -/
def Obligations.MemoryChangesOnlyAtCompletion : Prop :=
  (∀ (i : Instr) (s t : State), i ≠ .downstreamCompletion → i ≠ .resetPin → exec i s = .next t → t.mem = s.mem) ∧
  (∀ s t : State, exec .resetPin s = .next t →
    t.mem = s.mem ∨
    ∃ p, s.port = some p ∧ p.access.kind = .write ∧
      t.mem = Memory.writeWord s.mem p.access.addr p.access.lanes p.access.data)

/-! ## Reads of the management port -/

/-- READ STATUS (R166, R181, R182): seven bytes of the state it is taken in, the record as it stood before, then its own record.  The codes of
role, link state and result are written out. -/
def Obligations.StatusRead : Prop :=
  ([.unassigned, .active, .standby, .promoting, .handingOver, .fenced] : List Role).map Role.code =
    [0x00#8, 0x01#8, 0x02#8, 0x03#8, 0x04#8, 0x05#8] ∧
  ([.offline, .idle, .joining, .up, .recovery, .leaving] : List LinkState).map LinkState.code =
    [0x00#8, 0x01#8, 0x02#8, 0x03#8, 0x04#8, 0x05#8] ∧
  ([.ok, .busy, .badParam, .wrongRole, .linkDown, .full, .notInSync, .framing, .unknown] : List Result).map Result.code =
    [0x00#8, 0x01#8, 0x02#8, 0x03#8, 0x04#8, 0x05#8, 0x06#8, 0x07#8, 0x08#8] ∧
  ∀ s : State, s.resetLow = false →
    ∃ b : Byte,
      exec .readStatus s = .next (answer 0x50#8 .ok 0
        [s.role.code, s.link.state.code, BitVec.ofNat 8 s.journal.length, b, s.lastResult.result.code, s.lastResult.code,
         BitVec.ofNat 8 s.lastResult.slot.val] s) ∧
      b.getLsbD 0 = s.link.enable ∧
      b.getLsbD 1 = (if s.role = .active ∨ s.role = .handingOver then s.link.peerHold else s.standby.holding) ∧
      b.getLsbD 2 = irqAsserted s ∧ b.getLsbD 3 = false ∧
      (b.getLsbD 4 = true ↔ ∃ a w, s.upstream = .held a w .stall) ∧
      (b.getLsbD 5 = true ↔ ∃ a w, s.upstream = .held a w .handover) ∧ b.getLsbD 6 = false ∧ b.getLsbD 7 = false

/-- The reads without parameters: READ JOURNAL SUMMARY (R44), READ LINK PARAMETERS and READ LINK STATE (R171), READ CHECKPOINTS (R147)
and READ PATH PARAMETERS (R172), with the bytes of R182. -/
def Obligations.StateReads : Prop :=
  ([.none, .noReply, .sequence, .silence, .peerPart, .peerClosed, .peerRejoin, .locally] : List LossReason).map LossReason.code =
    [0x00#8, 0x01#8, 0x02#8, 0x03#8, 0x04#8, 0x05#8, 0x06#8, 0x07#8] ∧
  ([.offline, .idle, .joining, .up, .recovery, .leaving] : List LinkState).map LinkState.code =
    [0x00#8, 0x01#8, 0x02#8, 0x03#8, 0x04#8, 0x05#8] ∧
  ([.free, .opened, .done, .failed] : List SlotState).map SlotState.code = [0x00#8, 0x01#8, 0x02#8, 0x03#8] ∧
  ∀ s : State, s.resetLow = false →
    exec .readJournalSummary s = .next (answer 0x84#8 .ok 0
      [BitVec.ofNat 8 (s.journal.countP fun e => decide (e.state = .filling)),
       BitVec.ofNat 8 (s.journal.countP fun e => decide (e.state = .pending)),
       BitVec.ofNat 8 (s.journal.countP fun e => match e.state with | .sent _ _ => true | .filling | .pending => false),
       BitVec.ofNat 8 (s.journal.countP fun e => match e.body with | .write _ _ _ => true | _ => false),
       BitVec.ofNat 8 (s.journal.countP fun e => match e.body with | .fill _ _ _ => true | _ => false),
       BitVec.ofNat 8 (s.journal.countP fun e => match e.body with | .mark _ _ => true | _ => false),
       BitVec.ofNat 8 (s.journal.countP fun e => match e.body with | .takeover => true | _ => false),
       BitVec.ofNat 8 (64 - s.journal.length)] s) ∧
    exec .readLinkParameters s = .next (answer 0x76#8 .ok 0
      [s.linkParams.window, s.linkParams.reply, s.linkParams.retries, s.linkParams.quiet, s.linkParams.rejoin] s) ∧
    (∃ b : Byte,
      exec .readLinkState s = .next (answer 0x77#8 .ok 0
        [s.link.state.code, b, s.link.session, BitVec.ofNat 8 s.link.retry, s.link.ackPoint, s.link.sendPoint, s.link.cursor,
         s.standby.receiveNext, s.standby.appliedNext, s.link.lastLoss.code,
         match s.link.peerPart with | none => 0x00#8 | some .disabled => 0x01#8 | some .roleChange => 0x02#8] s) ∧
      b.getLsbD 0 = s.link.enable ∧ b.getLsbD 1 = s.link.joinSuspended ∧ b.getLsbD 2 = s.standby.resendException ∧
      b.extractLsb' 3 5 = 0#5) ∧
    exec .readCheckpoints s = .next (answer 0x81#8 .ok 0
      [s.slots[0].state.code ||| (if s.slots[0].taint then 0x80#8 else 0x00#8), s.slots[0].tag,
       s.slots[1].state.code ||| (if s.slots[1].taint then 0x80#8 else 0x00#8), s.slots[1].tag,
       s.slots[2].state.code ||| (if s.slots[2].taint then 0x80#8 else 0x00#8), s.slots[2].tag,
       s.slots[3].state.code ||| (if s.slots[3].taint then 0x80#8 else 0x00#8), s.slots[3].tag] s) ∧
    exec .readPathParameters s = .next (answer 0x8B#8 .ok 0
      [s.pathParams.stall.extractLsb' 8 8, s.pathParams.stall.extractLsb' 0 8, s.pathParams.fairness, s.pathParams.reserve,
       s.pathParams.handoverTime] s)

/-- READ WINDOW (R170) and READ TRACK MAP (R123): the window's fields, its map with bit t for track t, and the walk inside it; a window
number above 7 is refused with BAD_PARAM and zeros. -/
def Obligations.WindowReads : Prop :=
  ([.off, .mirror] : List WindowMode).map WindowMode.code = [0x00#8, 0x01#8] ∧
  ([.stall, .diverge, .strict] : List Policy).map Policy.code = [0x00#8, 0x01#8, 0x02#8] ∧
  ([.off, .passive, .inSync, .diverged, .resyncing] : List SyncState).map SyncState.code =
    [0x00#8, 0x01#8, 0x02#8, 0x03#8, 0x04#8] ∧
  (∀ m : TrackMap, bytesOf64 m =
    [m.extractLsb' 56 8, m.extractLsb' 48 8, m.extractLsb' 40 8, m.extractLsb' 32 8, m.extractLsb' 24 8, m.extractLsb' 16 8,
     m.extractLsb' 8 8, m.extractLsb' 0 8]) ∧
  (∀ (w : WindowId) (s : State), s.resetLow = false →
    exec (.readWindow (BitVec.ofNat 8 w.val)) s = .next (answer 0x60#8 .ok 0
      [s.windows[w].mode.code, s.windows[w].base.extractLsb' 16 8, s.windows[w].base.extractLsb' 8 8,
       s.windows[w].base.extractLsb' 0 8, BitVec.ofNat 8 s.windows[w].sizeExp.val, s.windows[w].policy.code,
       (syncState s w).code] s)) ∧
  (∀ (w : WindowId) (s : State), s.resetLow = false →
    ∃ inside track offsetHigh offsetLow words : Byte,
      exec (.readTrackMap (BitVec.ofNat 8 w.val)) s = .next (answer 0x62#8 .ok 0
        ([(syncState s w).code] ++ bytesOf64 s.maps[w] ++ [inside, track, offsetHigh, offsetLow, words]) s) ∧
      (∀ p, s.resync.walk = some p → p.window = w →
        inside = 0x01#8 ∧ track = BitVec.ofNat 8 p.track ∧ offsetHigh ++ offsetLow = BitVec.ofNat 16 p.offset ∧
        words = (match s.resync with | .reading _ n => BitVec.ofNat 8 n | .idle | .waiting _ _ => 0#8)) ∧
      ((∀ p, s.resync.walk = some p → p.window ≠ w) →
        inside = 0#8 ∧ track = 0#8 ∧ offsetHigh = 0#8 ∧ offsetLow = 0#8 ∧ words = 0#8)) ∧
  (∀ (number : Byte) (s : State), s.resetLow = false → 7 < number.toNat →
    exec (.readWindow number) s = .next (answer 0x60#8 .badParam 0 (List.replicate 7 0#8) s) ∧
    exec (.readTrackMap number) s = .next (answer 0x62#8 .badParam 0 (List.replicate 14 0#8) s))

/-- READ STATISTICS (R174, R175): the group's counters, most significant byte first, and with the clear flag the same counters at 0 in
the same event; a selector above 8 or a clear flag above 1 is refused, clears nothing and gives 28 zeros. -/
def Obligations.StatisticsRead : Prop :=
  (∀ c : Counter, bytesOf32 c = [c.extractLsb' 24 8, c.extractLsb' 16 8, c.extractLsb' 8 8, c.extractLsb' 0 8]) ∧
  (∀ (w : WindowId) (s : State), s.resetLow = false →
    ∃ data : List Byte,
      data = bytesOf32 s.windowStats[w].captured ++ bytesOf32 s.windowStats[w].merged ++ bytesOf32 s.windowStats[w].diverged ++
        bytesOf32 s.windowStats[w].refused ++ bytesOf32 s.windowStats[w].held ++ bytesOf32 s.windowStats[w].linesCopied ∧
      exec (.readStatistics (BitVec.ofNat 8 w.val) 0x00#8) s = .next (answer 0x88#8 .ok 0 data s) ∧
      exec (.readStatistics (BitVec.ofNat 8 w.val) 0x01#8) s = .next (answer 0x88#8 .ok 0 data
        { s with windowStats := s.windowStats.set w ⟨0#32, 0#32, 0#32, 0#32, 0#32, 0#32⟩ })) ∧
  (∀ s : State, s.resetLow = false →
    ∃ data : List Byte,
      data = bytesOf32 s.linkStats.sentFirst ++ bytesOf32 s.linkStats.retransmitted ++ bytesOf32 s.linkStats.discarded ++
        bytesOf32 s.linkStats.resendReceived ++ bytesOf32 s.linkStats.resendSent ++ bytesOf32 s.linkStats.askSent ++
        bytesOf32 s.linkStats.lost ∧
      exec (.readStatistics 0x08#8 0x00#8) s = .next (answer 0x88#8 .ok 0 data s) ∧
      exec (.readStatistics 0x08#8 0x01#8) s = .next (answer 0x88#8 .ok 0 data
        { s with linkStats := ⟨0#32, 0#32, 0#32, 0#32, 0#32, 0#32, 0#32⟩ })) ∧
  (∀ (selector clear : Byte) (s : State), s.resetLow = false → (8 < selector.toNat ∨ 1 < clear.toNat) →
    exec (.readStatistics selector clear) s = .next (answer 0x88#8 .badParam 0 (List.replicate 28 0#8) s))

/-- READ IDENTIFICATION gives the constants of R173 in every state. -/
def Obligations.Identification : Prop :=
  ∀ s : State, s.resetLow = false →
    exec .readIdentification s =
      .next (answer 0xE0#8 .ok 0 [0x5A#8, 0x21#8, 0x40#8, 0x01#8, 0x08#8, 0x40#8, 0x10#8, 0x04#8] s)

/-! ## Parameters and windows -/

/-- WRITE LINK PARAMETERS (R46): BUSY outside OFFLINE; BAD_PARAM where a value is out of range; else all five take effect.
WRITE PATH PARAMETERS (R172): BAD_PARAM where a value is out of range; else all four take effect, and no running timer changes.
What `settle` makes of a new reserve for a WAITING engine before the next grant to the resync reader is log entry 27, and that a request which
stands then goes on to stand is log entry 4. -/
def Obligations.ParameterWrites : Prop :=
  (∀ (window reply retries quiet rejoin : Byte) (s : State), s.resetLow = false →
    exec (.writeLinkParameters window reply retries quiet rejoin) s = .next (
      if s.link.state ≠ .offline then answer 0x75#8 .busy 0 [] s
      else if 1 ≤ window.toNat ∧ window.toNat ≤ 32 ∧ 1 ≤ reply.toNat ∧ 1 ≤ retries.toNat ∧ retries.toNat ≤ 15 ∧
          1 ≤ rejoin.toNat then
        answer 0x75#8 .ok 0 [] { s with linkParams := ⟨window, reply, retries, quiet, rejoin⟩ }
      else answer 0x75#8 .badParam 0 [] s)) ∧
  (∀ (stall : BitVec 16) (fairness reserve time : Byte) (s : State), s.resetLow = false →
    exec (.writePathParameters stall fairness reserve time) s = .next (
      if 1 ≤ stall.toNat ∧ stall.toNat ≤ 1023 ∧ 1 ≤ fairness.toNat ∧ fairness.toNat ≤ 15 ∧ reserve.toNat ≤ 32 ∧
          1 ≤ time.toNat then
        answer 0x8A#8 .ok 0 [] (settle s { s with pathParams := ⟨stall, fairness, reserve, time⟩ })
      else answer 0x8A#8 .badParam 0 [] s))

/-- R3: a MIRROR window matches an address whose low 12 + k bits cleared give its base; the owner is the lowest-numbered window that
matches; a word access has the byte address four times its word address; a word and a line lie wholly inside or outside a window; the
track is the distance from the base over the track size, 0 to 63. -/
def Obligations.OwningWindow : Prop :=
  (∀ (x : Window) (addr : Nat), x.isMatch addr = true ↔
    x.mode = .mirror ∧ addr - addr % 2 ^ (12 + x.sizeExp.val) = x.base.toNat) ∧
  (∀ (ws : Vector Window 8) (addr : Nat) (w : WindowId), owner ws addr = some w ↔
    ws[w].isMatch addr = true ∧ ∀ v : WindowId, v < w → ws[v].isMatch addr = false) ∧
  (∀ (ws : Vector Window 8) (addr : Nat), owner ws addr = none ↔ ∀ w : WindowId, ws[w].isMatch addr = false) ∧
  (∀ (s : State) (a : WordAddr), ownerOfWord s a = owner s.windows (4 * a.toNat)) ∧
  (∀ (x : Window) (line k : Nat), k < 64 → x.isMatch (64 * line + k) = x.isMatch (64 * line)) ∧
  (∀ (x : Window) (word k : Nat), k < 4 → x.isMatch (4 * word + k) = x.isMatch (4 * word)) ∧
  (∀ (x : Window) (addr : Nat), x.isMatch addr = true →
    x.trackOf addr = (addr - x.base.toNat) / (4096 * 2 ^ x.sizeExp.val / 64) ∧ x.trackOf addr ≤ 63)

/-- R4: the sync state of a window, row by row; `clean` is the third row's condition on the map, the FILL entries and the walk. -/
def Obligations.SyncStateTable : Prop :=
  ∀ (s : State) (w : WindowId) (clean : Prop),
    (clean ↔ s.maps[w] = 0#64 ∧ (∀ e ∈ s.journal, ∀ l d, e.body ≠ .fill w l d) ∧
      (∀ p, s.resync.walk = some p → p.window ≠ w)) →
    (s.windows[w].mode = .off → syncState s w = .off) ∧
    (s.windows[w].mode = .mirror → s.role = .unassigned ∨ s.role = .standby ∨ s.role = .promoting ∨ s.role = .fenced →
      syncState s w = .passive) ∧
    (s.windows[w].mode = .mirror → s.role = .active ∨ s.role = .handingOver →
      (clean → syncState s w = .inSync) ∧
      (¬clean → s.link.state = .up ∨ s.link.state = .recovery → syncState s w = .resyncing) ∧
      (¬clean → s.link.state ≠ .up ∧ s.link.state ≠ .recovery → syncState s w = .diverged))

/-- WRITE WINDOW: the checks of R2 in their order; then the four fields together, with full marking of a window turned to MIRROR on an
ACTIVE part (R16), the map cleared and the walk abandoned where a MIRROR window turns OFF (R17, R118), and the re-presentation of a held
write in the window's range where mode or policy changes (R14, R18).  That the range meant is the new one is log entry 15. -/
def Obligations.WriteWindow : Prop :=
  (∀ (number mode : Byte) (base : ByteAddr) (k policy : Byte) (s : State), s.resetLow = false →
    ¬(number.toNat ≤ 7 ∧ k.toNat ≤ 12 ∧ mode.toNat ≤ 1 ∧ policy.toNat ≤ 2 ∧ base.toNat % (4096 * 2 ^ k.toNat) = 0) →
    exec (.writeWindow number mode base k policy) s = .next (answer 0x61#8 .badParam 0 [] s)) ∧
  (∀ (w : WindowId) (x : Window) (s : State), s.resetLow = false → x.base.toNat % 2 ^ (12 + x.sizeExp.val) = 0 →
    ((s.windows[w].mode = .mirror ∧ (x.base ≠ s.windows[w].base ∨ x.sizeExp ≠ s.windows[w].sizeExp)) ∨
      (x.mode ≠ s.windows[w].mode ∧ s.role = .handingOver)) →
    exec (.writeWindow (BitVec.ofNat 8 w.val) x.mode.code x.base (BitVec.ofNat 8 x.sizeExp.val) x.policy.code) s =
      .next (answer 0x61#8 .busy 0 [] s)) ∧
  (∀ (w : WindowId) (x : Window) (s : State), s.resetLow = false → x.base.toNat % 2 ^ (12 + x.sizeExp.val) = 0 →
    ¬(s.windows[w].mode = .mirror ∧ (x.base ≠ s.windows[w].base ∨ x.sizeExp ≠ s.windows[w].sizeExp)) →
    ¬(x.mode ≠ s.windows[w].mode ∧ s.role = .handingOver) →
    ∃ t u : State,
      exec (.writeWindow (BitVec.ofNat 8 w.val) x.mode.code x.base (BitVec.ofNat 8 x.sizeExp.val) x.policy.code) s =
        .next (answer 0x61#8 .ok 0 [] (settle s u)) ∧
      ((s.windows[w].mode ≠ x.mode ∨ s.windows[w].policy ≠ x.policy) →
        (∃ a v r, s.upstream = .held a v r ∧
          4 * a.addr.toNat - 4 * a.addr.toNat % 2 ^ (12 + x.sizeExp.val) = x.base.toNat) → u = representHeld t) ∧
      ((s.windows[w].mode = x.mode ∧ s.windows[w].policy = x.policy) ∨
        (∀ a v r, s.upstream = .held a v r →
          4 * a.addr.toNat - 4 * a.addr.toNat % 2 ^ (12 + x.sizeExp.val) ≠ x.base.toNat) → u = t) ∧
      (s.windows[w].mode = x.mode → t = { s with windows := s.windows.set w x }) ∧
      (s.windows[w].mode = .off → x.mode = .mirror →
        t = { s with
          windows := s.windows.set w x
          maps := if s.role = .active then s.maps.set w (BitVec.allOnes 64) else s.maps }) ∧
      (s.windows[w].mode = .mirror → x.mode = .off →
        t = { s with
          windows := s.windows.set w x
          maps := s.maps.set w 0#64
          resync :=
            match s.resync with
            | .idle => .idle
            | .waiting p r => if p.window = w then .idle else .waiting p r
            | .reading none n => .reading none n
            | .reading (some p) n => if p.window = w then .reading none n else .reading (some p) n }))

/-- MARK WINDOW: the checks of R122 in their order; then the named tracks, both ends included, join the window's map. -/
def Obligations.MarkWindowCommand : Prop :=
  (∀ (number first last : Byte) (s : State), s.resetLow = false →
    7 < number.toNat ∨ 63 < first.toNat ∨ 63 < last.toNat ∨ last.toNat < first.toNat →
    exec (.markWindow number first last) s = .next (answer 0x63#8 .badParam 0 [] s)) ∧
  (∀ (w : WindowId) (first last : Byte) (s : State), s.resetLow = false → first.toNat ≤ last.toNat → last.toNat ≤ 63 →
    (s.role = .unassigned ∨ s.role = .standby ∨ s.role = .promoting ∨ s.role = .fenced →
      exec (.markWindow (BitVec.ofNat 8 w.val) first last) s = .next (answer 0x63#8 .wrongRole 0 [] s)) ∧
    (s.role = .handingOver →
      exec (.markWindow (BitVec.ofNat 8 w.val) first last) s = .next (answer 0x63#8 .busy 0 [] s)) ∧
    (s.role = .active → s.windows[w].mode = .off →
      exec (.markWindow (BitVec.ofNat 8 w.val) first last) s = .next (answer 0x63#8 .badParam 0 [] s)) ∧
    (s.role = .active → s.windows[w].mode = .mirror →
      ∃ m : TrackMap,
        exec (.markWindow (BitVec.ofNat 8 w.val) first last) s =
          .next (answer 0x63#8 .ok 0 [] (settle s { s with maps := s.maps.set w m })) ∧
        ∀ t : Nat, m.getLsbD t = (s.maps[w].getLsbD t || (decide (first.toNat ≤ t) && decide (t ≤ last.toNat)))))

/-! ## What an event ends with -/

/-- The end of an event touches the maps, the resync engine, the upstream run, the rejoin delay and the two window causes alone (and the
model's count of free values); the rejoin delay runs exactly while R52's conditions hold, keeping the time it started with; the causes are
those of the windows' moves since the event began (R5); the upstream run becomes 0 where the internal request has gone (R156).
That each is judged once, between the event's two ends, is log entry 22. -/
def Obligations.EventEnd : Prop :=
  ∀ before s : State,
    { settle before s with
      maps := s.maps, resync := s.resync, causes := s.causes, upstreamRun := s.upstreamRun,
      link.rejoinTimer := s.link.rejoinTimer, freeCount := s.freeCount } = s ∧
    (settle before s).link.rejoinTimer =
      (if s.role = .active ∧ s.link.enable = true ∧ s.link.state = .idle ∧ s.link.joinSuspended = false then
        some (match s.link.rejoinTimer with | some d => d | none => 10 * s.linkParams.rejoin.toNat)
      else none) ∧
    (∀ c : Cause, c ≠ .windowInSync → c ≠ .windowDiverged → hasCause (settle before s) c = hasCause s c) ∧
    (hasCause (settle before s) .windowInSync = true ↔
      hasCause s .windowInSync = true ∨
      ∃ w : WindowId, syncState (settle before s) w = .inSync ∧ syncState before w ≠ .inSync) ∧
    (hasCause (settle before s) .windowDiverged = true ↔
      hasCause s .windowDiverged = true ∨
      ∃ w : WindowId, syncState before w = .inSync ∧
        (syncState (settle before s) w = .diverged ∨ syncState (settle before s) w = .resyncing)) ∧
    (settle before s).upstreamRun =
      (if internalRequest before ≠ none ∧ internalRequest (settle before s) ≠ internalRequest before then 0
       else s.upstreamRun)

/-- The resync engine at the end of an event.  IDLE on an ACTIVE part with the link UP, it starts the lowest marked track of the lowest
window with one (R113); WAITING, it requests the first read while it may run, the free entries exceed the reserve and no discarded read is
in progress (R114, R117), and withdraws the request where it may not run; READING, it goes on.  Whether entries taken in this event
withdraw a standing request at once is a free value (log entry 4); that a new reserve counts from its
own event on, before the next grant to the resync reader, is log entry 27.
That the engine is judged at the end of the event is log entry 22. -/
def Obligations.ResyncAtEventEnd : Prop :=
  ∀ before s : State,
    (∀ (w : WindowId) (t : Nat), s.resync = .idle → s.role = .active → s.link.state = .up →
      s.maps[w].getLsbD t = true → (∀ v : WindowId, v < w → s.maps[v] = 0#64) → (∀ u < t, s.maps[w].getLsbD u = false) →
      (settle before s).resync =
        .waiting { window := w, track := t, offset := 0 }
          (decide (s.pathParams.reserve.toNat < 64 - s.journal.length) && !discardedRead s) ∧
      (∀ v : WindowId, v ≠ w → (settle before s).maps[v] = s.maps[v]) ∧
      ∀ u : Nat, (settle before s).maps[w].getLsbD u = (s.maps[w].getLsbD u && decide (u ≠ t))) ∧
    (s.resync = .idle → s.role ≠ .active ∨ s.link.state ≠ .up ∨ (∀ w : WindowId, s.maps[w] = 0#64) →
      (settle before s).resync = .idle ∧ (settle before s).maps = s.maps) ∧
    (∀ (p : Walk) (requesting : Bool), s.resync = .waiting p requesting →
      (settle before s).maps = s.maps ∧
      (s.role ≠ .active ∨ s.link.state ≠ .up → (settle before s).resync = .waiting p false) ∧
      (s.role = .active → s.link.state = .up → requesting = false →
        (settle before s).resync =
          .waiting p (decide (s.pathParams.reserve.toNat < 64 - s.journal.length) && !discardedRead s)) ∧
      (s.role = .active → s.link.state = .up → requesting = true →
        freeEntries before ≤ freeEntries s ∨ s.pathParams.reserve.toNat < freeEntries s →
        (settle before s).resync = .waiting p true) ∧
      ∃ still, (settle before s).resync = .waiting p still) ∧
    (∀ (walk : Option Walk) (n : Nat), s.resync = .reading walk n →
      (settle before s).resync = .reading walk n ∧ (settle before s).maps = s.maps)

/-! ## The word bus and the capture unit -/

/-- UPSTREAM_PRESENTATION (R151): in NONE a READ, or a WRITE with a byte, requests the port, and a WRITE with an empty lane mask ends at
once with FAULT; in any other state the processor presents nothing (R152; that the event then changes nothing is log entry 6).  The ending
last given is the model's own field. -/
def Obligations.Presentation : Prop :=
  ∀ (a : Access) (s : State), s.resetLow = false →
    (s.upstream = .none → a.kind = .read ∨ a.lanes ≠ 0#4 →
      exec (.upstreamPresentation a) s = .next { s with upstream := .requesting a false, ending := none }) ∧
    (s.upstream = .none → a.kind = .write → a.lanes = 0#4 →
      exec (.upstreamPresentation a) s = .next { s with ending := some .fault }) ∧
    (s.upstream ≠ .none → exec (.upstreamPresentation a) s = .next s)

/-- The outcome of an upstream write at its grant (R7), and of one forced to diverge (R13). -/
def Obligations.ClassificationTable : Prop :=
  ∀ (a : Access) (forced : Bool) (s : State),
    (ownerOfWord s a.addr = none → classify s a forced = .pass) ∧
    (∀ w : WindowId, ownerOfWord s a.addr = some w →
      (s.role = .unassigned → classify s a forced = .pass) ∧
      (s.role = .handingOver → classify s a forced = .hold w .handover) ∧
      (s.role = .standby ∨ s.role = .promoting ∨ s.role = .fenced → classify s a forced = .refuse w) ∧
      (s.role = .active → forced = true → classify s a forced = .diverge w) ∧
      (s.role = .active → forced = false →
        (s.link.state = .up ∨ s.link.state = .recovery →
          ((∃ older bytes, s.journal = older ++
              [{ body := .write w (BitVec.ofNat 18 (a.addr.toNat / 16)) bytes, state := .pending }]) →
            classify s a forced = .merge w) ∧
          ((¬∃ older bytes, s.journal = older ++
              [{ body := .write w (BitVec.ofNat 18 (a.addr.toNat / 16)) bytes, state := .pending }]) →
            (s.journal.length < 64 → classify s a forced = .capture w) ∧
            (64 ≤ s.journal.length →
              (s.windows[w].policy = .stall → classify s a forced = .hold w .stall) ∧
              (s.windows[w].policy = .diverge → classify s a forced = .diverge w) ∧
              (s.windows[w].policy = .strict → classify s a forced = .refuse w)))) ∧
        (s.link.state ≠ .up → s.link.state ≠ .recovery →
          (s.windows[w].policy ≠ .strict → classify s a forced = .diverge w) ∧
          (s.windows[w].policy = .strict → classify s a forced = .refuse w))))

/-- ARBITER_GRANT to the upstream access: alone, with the upstream run unchanged, or against an internal request while the run is below
the fairness count, with the run one more (R156).  A READ and a passing write start their downstream access (R153); a capture appends an
entry (R28), a merge changes the youngest (R29), a diverge marks the track and taints OPEN slots (R9), a hold fills the slot (R11) and a
refuse ends the write with FAULT (R10); each counts in its window (R20). -/
def Obligations.GrantOfUpstreamAccess : Prop :=
  ∀ (a : Access) (forced : Bool) (run : Nat) (s : State),
    s.resetLow = false → s.port = none → s.upstream = .requesting a forced →
    (internalRequest s = none ∧ run = s.upstreamRun) ∨
      (internalRequest s ≠ none ∧ s.upstreamRun < s.pathParams.fairness.toNat ∧ run = s.upstreamRun + 1) →
    (a.kind = .read →
      exec .arbiterGrant s = .next (settle s { s with
        upstreamRun := run, upstream := .inProgress a
        port := some { owner := .upstream, access := { a with lanes := 0xF#4 } } })) ∧
    (a.kind = .write →
      (classify s a forced = .pass →
        exec .arbiterGrant s = .next (settle s { s with
          upstreamRun := run, upstream := .inProgress a, port := some { owner := .upstream, access := a } })) ∧
      (∀ w, classify s a forced = .capture w →
        exec .arbiterGrant s = .next (settle s { s with
          upstreamRun := run, upstream := .inProgress a, port := some { owner := .upstream, access := a }
          journal := s.journal ++
            [{ body := .write w (BitVec.ofNat 18 (a.addr.toNat / 16)) (accessBytes a), state := .pending }]
          windowStats := s.windowStats.set w
            { s.windowStats[w] with captured := s.windowStats[w].captured + 1 } })) ∧
      (∀ w older line bytes, classify s a forced = .merge w →
        s.journal = older ++ [{ body := .write w line bytes, state := .pending }] →
        exec .arbiterGrant s = .next (settle s { s with
          upstreamRun := run, upstream := .inProgress a, port := some { owner := .upstream, access := a }
          journal := older ++ [{ body := .write w line (mergeBytes bytes (accessBytes a)), state := .pending }]
          windowStats := s.windowStats.set w { s.windowStats[w] with merged := s.windowStats[w].merged + 1 } })) ∧
      (∀ w, classify s a forced = .diverge w →
        exec .arbiterGrant s = .next (settle s { s with
          upstreamRun := run, upstream := .inProgress a, port := some { owner := .upstream, access := a }
          maps := s.maps.set w (s.maps[w] ||| BitVec.twoPow 64 (s.windows[w].trackOf (4 * a.addr.toNat)))
          slots := s.slots.map fun x => if x.state = .opened then { x with taint := true } else x
          windowStats := s.windowStats.set w
            { s.windowStats[w] with diverged := s.windowStats[w].diverged + 1 } })) ∧
      (∀ w reason, classify s a forced = .hold w reason →
        exec .arbiterGrant s = .next (settle s { s with
          upstreamRun := run, upstream := .held a w reason
          stallTimer := if reason = .stall then some s.pathParams.stall.toNat else none
          windowStats := s.windowStats.set w { s.windowStats[w] with held := s.windowStats[w].held + 1 } })) ∧
      (∀ w, classify s a forced = .refuse w →
        exec .arbiterGrant s = .next (settle s (setCause .writeRefused { s with
          upstreamRun := run, upstream := .none, ending := some .fault
          windowStats := s.windowStats.set w { s.windowStats[w] with refused := s.windowStats[w].refused + 1 } }))))

/-- ARBITER_GRANT to the internal requester: alone, or against an upstream request with the upstream run at or above the fairness count;
the run becomes 0 (R156).  A first read reserves a FILLING entry where the free entries exceed the reserve, and performs no read otherwise
(R31, R114); a later read follows (R115); an apply write carries the record's bytes of its word (R96).  The line read is the track's first
line plus the offset, a track holding 2^k lines (R108, R112). -/
def Obligations.GrantOfInternalRequest : Prop :=
  (∀ (s : State) (p : Walk), walkLine s p =
    BitVec.ofNat 18 (s.windows[p.window].base.toNat / 64 + p.track * 2 ^ s.windows[p.window].sizeExp.val + p.offset)) ∧
  ∀ s : State, s.resetLow = false → s.port = none →
    ((∀ a forced, s.upstream ≠ .requesting a forced) ∨ s.pathParams.fairness.toNat ≤ s.upstreamRun) →
    (∀ p : Walk, internalRequest s = some (.firstRead p) →
      (s.pathParams.reserve.toNat < 64 - s.journal.length →
        exec .arbiterGrant s = .next (settle s { s with
          upstreamRun := 0, resync := .reading (some p) 0
          journal := s.journal ++ [{ body := .fill p.window (walkLine s p) [], state := .filling }]
          port := some
            { owner := .resync
              access :=
                { kind := .read, addr := BitVec.ofNat 22 (16 * (walkLine s p).toNat), lanes := 0xF#4
                  data := #v[0#8, 0#8, 0#8, 0#8] } } })) ∧
      (64 - s.journal.length ≤ s.pathParams.reserve.toNat →
        exec .arbiterGrant s = .next (settle s { s with upstreamRun := 0, resync := .waiting p false }))) ∧
    (∀ (line : LineNo) (n : Nat), internalRequest s = some (.nextRead line n) →
      exec .arbiterGrant s = .next (settle s { s with
        upstreamRun := 0
        port := some
          { owner := .resync
            access :=
              { kind := .read, addr := BitVec.ofNat 22 (16 * line.toNat + n), lanes := 0xF#4
                data := #v[0#8, 0#8, 0#8, 0#8] } } })) ∧
    (∀ (q : Byte) (o : Nat) (r : Received) (rest : List Received) (line : LineNo),
      internalRequest s = some (.applyWord q o) → s.standby.engine = .applying o → s.standby.queue = r :: rest →
      recordLine r.record = some line →
      exec .arbiterGrant s = .next (settle s { s with
        upstreamRun := 0
        port := some
          { owner := .apply
            access :=
              { kind := .write, addr := BitVec.ofNat 22 (16 * line.toNat + o), lanes := recordLanes r.record o
                data := recordWord r.record o } } }))

/-- The bytes a write carries (R8) and a merge of them into an entry (R29): ascending positions of the line, at most 64, each written
position at its new value and every other as it was.  The words of a record (R96) carry its bytes lane by lane. -/
def Obligations.BytesOfEntries : Prop :=
  (∀ a : Access,
    positionsRise 0 (accessBytes a) = true ∧
    (∀ i : Fin 4, Cells.get (4 * (a.addr.toNat % 16) + i.val) (accessBytes a) =
      if a.lanes.getLsbD i.val then some a.data[i] else none) ∧
    ∀ k : Nat, k / 4 ≠ a.addr.toNat % 16 → Cells.get k (accessBytes a) = none) ∧
  (∀ old new : List (Nat × Byte), positionsRise 0 old = true → positionsRise 0 new = true →
    positionsRise 0 (mergeBytes old new) = true ∧ (mergeBytes old new).length ≤ 64 ∧
    ∀ k : Nat, Cells.get k (mergeBytes old new) = (Cells.get k new).or (Cells.get k old)) ∧
  (∀ (line : LineNo) (bytes : List (Nat × Byte)) (o : Nat) (i : Fin 4),
    (recordLanes (.write line bytes) o).getLsbD i.val = (Cells.get (4 * o + i.val) bytes).isSome ∧
    ∀ b, Cells.get (4 * o + i.val) bytes = some b → (recordWord (.write line bytes) o)[i] = b) ∧
  (∀ (line : LineNo) (data : List Byte) (o : Nat) (i : Fin 4), data.length = 64 → o < 16 →
    (recordLanes (.fill line data) o).getLsbD i.val = true ∧ data[4 * o + i.val]? = some (recordWord (.fill line data) o)[i])

/-- DOWNSTREAM_COMPLETION of an upstream access, or of an internal one whose owner is gone: the port is FREE, memory has the lane mask's
bytes written and every other byte as it was (R150, R153), and the upstream access ends with DONE, a READ with the word memory held. -/
def Obligations.CompletedAccess : Prop :=
  ∀ (x : PortAccess) (s : State), s.resetLow = false → s.port = some x →
    ∃ m : List Host.Cell,
      (x.access.kind = .read → m = s.mem) ∧
      (x.access.kind = .write → memoryCanonical s = true →
        (∀ i : Fin 4, Memory.read m (4 * x.access.addr.toNat + i.val) =
          if x.access.lanes.getLsbD i.val then x.access.data[i]
          else Memory.read s.mem (4 * x.access.addr.toNat + i.val)) ∧
        ∀ k : Nat, k / 4 ≠ x.access.addr.toNat → Memory.read m k = Memory.read s.mem k) ∧
      (∀ a : Access, x.owner = .upstream → s.upstream = .inProgress a →
        (a.kind = .write →
          exec .downstreamCompletion s = .next (settle s { s with
            port := none, mem := m, upstream := .none, ending := some (.done none) })) ∧
        (a.kind = .read → x.access.kind = .read →
          ∃ word : WordData,
            exec .downstreamCompletion s = .next (settle s { s with
              port := none, upstream := .none, ending := some (.done (some word)) }) ∧
            ∀ i : Fin 4, word[i] = Memory.read s.mem (4 * a.addr.toNat + i.val))) ∧
      (x.owner = .dropped → exec .downstreamCompletion s = .next (settle s { s with port := none, mem := m }))

/-- DOWNSTREAM_COMPLETION for the part's own requesters.  A resync read gives its word to the FILLING entry; after the sixteenth the entry is
PENDING, the line counts as copied in its window and the walk moves on or ends (R32, R115, R121).  An apply write is followed by the
record's next word, or completes the record (R96, R97); `nextWord` is the next word position with a masked byte. -/
def Obligations.InternalCompletions : Prop :=
  (∀ (x : Access) (walk : Option Walk) (n : Nat) (older younger : List Entry) (w : WindowId) (line : LineNo) (data : List Byte)
      (s : State),
    s.resetLow = false → s.port = some { owner := .resync, access := x } → x.kind = .read → s.resync = .reading walk n →
    s.journal = older ++ [{ body := .fill w line data, state := .filling }] ++ younger →
    (∀ e ∈ older ++ younger, e.state ≠ .filling) →
    ∃ word : WordData, (∀ i : Fin 4, word[i] = Memory.read s.mem (4 * x.addr.toNat + i.val)) ∧
      (n < 15 →
        exec .downstreamCompletion s = .next (settle s { s with
          port := none, resync := .reading walk (n + 1)
          journal := older ++ [{ body := .fill w line (data ++ word.toList), state := .filling }] ++ younger })) ∧
      (n = 15 →
        exec .downstreamCompletion s = .next (settle s { s with
          port := none
          resync :=
            match walk with
            | none => .idle
            | some p =>
              if p.offset + 1 < 2 ^ s.windows[p.window].sizeExp.val then .waiting { p with offset := p.offset + 1 } false
              else .idle
          journal := older ++ [{ body := .fill w line (data ++ word.toList), state := .pending }] ++ younger
          windowStats := s.windowStats.set w
            { s.windowStats[w] with linesCopied := s.windowStats[w].linesCopied + 1 } }))) ∧
  (∀ (x : Access) (o : Nat) (r : Received) (rest : List Received) (s : State),
    s.resetLow = false → s.port = some { owner := .apply, access := x } → x.kind = .write → s.standby.engine = .applying o →
    s.standby.queue = r :: rest →
    ∃ m : List Host.Cell,
      (memoryCanonical s = true →
        (∀ i : Fin 4, Memory.read m (4 * x.addr.toNat + i.val) =
          if x.lanes.getLsbD i.val then x.data[i] else Memory.read s.mem (4 * x.addr.toNat + i.val)) ∧
        ∀ k : Nat, k / 4 ≠ x.addr.toNat → Memory.read m k = Memory.read s.mem k) ∧
      (∀ o', nextWord r.record (o + 1) = some o' →
        exec .downstreamCompletion s = .next (settle s { s with port := none, mem := m, standby.engine := .applying o' })) ∧
      (nextWord r.record (o + 1) = none →
        exec .downstreamCompletion s = .next (settle s (completeRecord { s with port := none, mem := m })))) ∧
  (∀ (r : Record) (start o : Nat), nextWord r start = some o ↔
    start ≤ o ∧ o < 16 ∧ recordLanes r o ≠ 0#4 ∧ ∀ k, start ≤ k → k < o → recordLanes r k = 0#4)

/-- The held write.  Re-presentation empties the slot and stops its timer (R14), on a freed entry for reason STALL alone; a handover that
ends elsewhere faults it, counted as refused (R12); an empty slot is left as it is (R15).  STALL_LIMIT_EXPIRY re-presents it forced to
diverge and sets STALL_EXPIRED (R13), and finds nothing to do in any other case (R15). -/
def Obligations.HeldWrite : Prop :=
  (∀ (a : Access) (w : WindowId) (r : HoldReason) (s : State), s.upstream = .held a w r →
    representHeld s = { s with upstream := .requesting a false, stallTimer := none } ∧
    (r = .stall → representStalled s = { s with upstream := .requesting a false, stallTimer := none } ∧ faultHeld s = s) ∧
    (r = .handover → representStalled s = s ∧
      faultHeld s = setCause .writeRefused { s with
        upstream := .none, ending := some .fault, stallTimer := none
        windowStats := s.windowStats.set w { s.windowStats[w] with refused := s.windowStats[w].refused + 1 } })) ∧
  (∀ s : State, (∀ a w r, s.upstream ≠ .held a w r) → representHeld s = s ∧ representStalled s = s ∧ faultHeld s = s) ∧
  (∀ (a : Access) (w : WindowId) (d : Nat) (s : State), s.resetLow = false → s.upstream = .held a w .stall →
    s.stallTimer = some d →
    exec .stallLimitExpiry s =
      .next (settle s (setCause .stallExpired { s with upstream := .requesting a true, stallTimer := none }))) ∧
  (∀ s : State, s.resetLow = false → (∀ a w, s.upstream ≠ .held a w .stall) →
    exec .stallLimitExpiry s = .next (settle s s))

/-! ## The standby side -/

/-- REC and ASK in an association.  On the standby side a REC in sequence with room joins the queue, R advances and the exception flag
clears, with HOLD and an ACK at occupancy 12 (R92, R100); any other is discarded, the first of an exception with a RESEND (R93); an ASK is
answered with a FINAL ACK (R99).  Each restarts the silence timer and clears accept-repeat (R58, R102).  On the active side a REC is
ignored, and an ASK too unless a SWAP ASEQ is kept (R51, R138); the quiet timer restarts (R77).  That a record which makes the queue
non-empty is taken in the same event is R95 (log entry 11).
What record a REC can carry is log entry 17. -/
def Obligations.RecordsAndAsks : Prop :=
  ∀ (q : Byte) (r : Record) (s h : State), s.resetLow = false → r.valid = true →
    (s.link.state = .up → s.role ≠ .active → s.role ≠ .handingOver →
      h = { s with
        link.acceptRepeat := false
        standby.silenceTimer := if s.linkParams.quiet = 0#8 then none else some (30 * s.linkParams.quiet.toNat) } →
      (q = s.standby.receiveNext → s.standby.queue.length < 16 →
        ∃ t : State,
          (s.standby.queue.length = 11 → s.standby.holding = false →
            t = sendFrame (.ack s.standby.appliedNext false true false) { h with
              standby.queue := s.standby.queue ++ [{ tseq := q, record := r }], standby.receiveNext := q + 1
              standby.resendException := false, standby.holding := true, standby.sinceReport := 0 }) ∧
          (s.standby.queue.length ≠ 11 ∨ s.standby.holding = true →
            t = { h with
              standby.queue := s.standby.queue ++ [{ tseq := q, record := r }], standby.receiveNext := q + 1
              standby.resendException := false }) ∧
          (s.standby.queue ≠ [] ∨ s.standby.engine ≠ .idle → exec (.recReceived q r) s = .next (settle s t)) ∧
          (s.standby.queue = [] → s.standby.engine = .idle → exec (.recReceived q r) s = .next (settle s (takeRecord t)))) ∧
      (q ≠ s.standby.receiveNext ∨ 16 ≤ s.standby.queue.length →
        (s.standby.resendException = true → exec (.recReceived q r) s = .next (settle s h)) ∧
        (s.standby.resendException = false →
          exec (.recReceived q r) s = .next (settle s
            (sendFrame (.resend s.standby.appliedNext s.standby.receiveNext s.standby.holding) { h with
              standby.resendException := true, standby.sinceReport := 0
              linkStats.resendSent := s.linkStats.resendSent + 1 })))) ∧
      exec .askReceived s = .next (settle s
        (sendFrame (.ack s.standby.appliedNext true s.standby.holding false) { h with standby.sinceReport := 0 }))) ∧
    (s.link.state = .up ∨ s.link.state = .recovery → s.role = .active ∨ s.role = .handingOver →
      h = { s with
        link.acceptRepeat := false
        link.quietTimer := if s.linkParams.quiet = 0#8 then .stopped else .running (10 * s.linkParams.quiet.toNat) } →
      exec (.recReceived q r) s = .next (settle s h) ∧
      (s.keptSwap = none ∨ s.link.state = .recovery → exec .askReceived s = .next (settle s h)) ∧
      (∀ aseq, s.keptSwap = some aseq → s.link.state = .up →
        exec .askReceived s = .next (settle s (sendFrame (.ack aseq true false true) h))))

/-- APPLY_TAKE_RECORD (R95): the IDLE engine takes the oldest record.  A WRITE or FILL in a MIRROR window of this part starts with its first
word; one in none is consumed with MAP_MISMATCH; a MARK is consumed, and so is a TAKEOVER outside STANDBY (R129).  A STANDBY part applies a
TAKEOVER, the last record of its queue (R137): in UP it sends the SWAP ACK, keeps its ASEQ, becomes ACTIVE with its maps as they are, zeroes
both directions and turns its timers; outside UP it becomes ACTIVE without a frame and with no number zeroed but P past the record.
That a TAKEOVER consumed in PROMOTING may complete the promotion at once is log entry 12. -/
def Obligations.RecordTaken : Prop :=
  (∀ (r : Received) (rest : List Received) (s : State), s.resetLow = false → s.standby.engine = .idle →
     s.standby.queue = r :: rest →
     (∀ (line : LineNo) (w : WindowId) (o : Nat), recordLine r.record = some line → owner s.windows (64 * line.toNat) = some w →
       nextWord r.record 0 = some o →
       exec .applyTakeRecord s = .next (settle s { s with standby.engine := .applying o })) ∧
     (∀ line : LineNo, recordLine r.record = some line → owner s.windows (64 * line.toNat) = none →
       exec .applyTakeRecord s = .next (settle s (completeRecord (setCause .mapMismatch s)))) ∧
     (∀ tag slot, r.record = .mark tag slot → exec .applyTakeRecord s = .next (settle s (completeRecord s))) ∧
     (r.record = .takeover → s.role ≠ .standby → exec .applyTakeRecord s = .next (settle s (completeRecord s)))) ∧
  (∀ (x : Received) (s : State), s.resetLow = false → s.role = .standby → s.standby.engine = .idle → x.record = .takeover →
     s.standby.queue = [x] →
     (s.link.state = .up →
       exec .applyTakeRecord s = .next (settle s (setCause .takenOver
         { changeRole .active (sendFrame (.ack (s.standby.appliedNext + 1) false false true) { s with
             standby.queue := [], standby.holding := false, standby.sinceReport := 0 }) with
           keptSwap := some (s.standby.appliedNext + 1)
           link.ackPoint := 0#8, link.sendPoint := 0#8, link.cursor := 0#8, standby.receiveNext := 0#8
           standby.appliedNext := 0#8, standby.resendException := false, link.peerHold := false, link.retry := 0
           standby.silenceTimer := none, link.replyTimer := none
           link.quietTimer := if s.linkParams.quiet = 0#8 then .stopped else .running (10 * s.linkParams.quiet.toNat) }))) ∧
     (s.link.state ≠ .up →
       exec .applyTakeRecord s = .next (settle s (setCause .takenOver
         (changeRole .active { s with
           standby.queue := [], standby.holding := false, standby.appliedNext := s.standby.appliedNext + 1 })))))

/-- The completion of a record (R97): it leaves the queue, P advances, the engine is IDLE, HOLD ends at occupancy 4 (R100).  In UP on the
standby side the count rises, and at most one report is decided (R98, R101).  Outside UP nothing is reported (R104), and an emptied queue lets a
deferred JOIN be accepted (R57) or a promotion complete (R130).
That the count stands still outside UP is log entry 18. -/
def Obligations.RecordCompletes : Prop :=
  ∀ (r : Received) (rest : List Received) (s t : State), s.standby.queue = r :: rest →
    t = { s with
      standby.queue := rest, standby.appliedNext := s.standby.appliedNext + 1, standby.engine := .idle
      standby.holding := s.standby.holding && decide (rest.length ≠ 4) } →
    (s.link.state = .up → s.role = .standby →
      (s.standby.holding = true → rest.length = 4 → s.standby.resendException = true →
        completeRecord s = sendFrame (.resend (s.standby.appliedNext + 1) s.standby.receiveNext false)
          { t with standby.sinceReport := 0, linkStats.resendSent := s.linkStats.resendSent + 1 }) ∧
      (s.standby.holding = true → rest.length = 4 → s.standby.resendException = false →
        completeRecord s = sendFrame (.ack (s.standby.appliedNext + 1) false false false) { t with standby.sinceReport := 0 }) ∧
      (¬(s.standby.holding = true ∧ rest.length = 4) → rest = [] ∨ 3 ≤ s.standby.sinceReport →
        completeRecord s = sendFrame (.ack (s.standby.appliedNext + 1) false s.standby.holding false)
          { t with standby.sinceReport := 0 }) ∧
      (¬(s.standby.holding = true ∧ rest.length = 4) → rest ≠ [] → s.standby.sinceReport < 3 →
        completeRecord s = { t with standby.sinceReport := s.standby.sinceReport + 1 })) ∧
    (s.link.state ≠ .up → s.role = .standby ∨ s.role = .promoting →
      (rest ≠ [] → completeRecord s = t) ∧
      (rest = [] → s.role = .promoting → completeRecord s = completePromotion t) ∧
      (rest = [] → s.role = .standby → s.link.deferredJoin = none ∨ s.link.state ≠ .idle → completeRecord s = t) ∧
      (∀ session, rest = [] → s.role = .standby → s.link.state = .idle → s.link.deferredJoin = some session →
        completeRecord s = acceptJoin session t))

/-! ## The link: ends of an association -/

/-- The loss procedures.  On the active side (R63): the loss recorded and counted, LINK_LOST, peer-hold and timers cleared, A, S and cursor
kept, the journal flushed into marks of the lines its windows still hold and failed slots (R41, R145), the resync engine stopped with its track
marked again (R117).  On the standby side (R64): the loss recorded and counted, the flags cleared, the silence timer stopped, the queue left to
drain; SILENCE_TIMER_EXPIRY is such a loss (R102).  WINDOW_DIVERGED is set where a window that read IN_SYNC has a marked track after the flush, and
WINDOW_IN_SYNC where a MIRROR window that did not has none (R5); that these moves are judged right after the flush is log entry 9. -/
def Obligations.LossProcedures : Prop :=
  (∀ (reason : LossReason) (peer : Option PartReason) (s : State), s.role = .active →
    ∃ (t : State) (c : CauseSet),
      endAssociation reason peer s = { t with causes := c } ∧
      t = { s with
        link.lastLoss := reason, link.peerPart := peer, linkStats.lost := s.linkStats.lost + 1
        link.peerHold := false, link.replyTimer := none, link.quietTimer := .stopped, link.retry := 0
        journal := [], resync := .idle, keptSwap := none, port := t.port, maps := t.maps, slots := t.slots } ∧
      t.port = s.port.map (fun p => if p.owner = .resync then { p with owner := .dropped } else p) ∧
      (∀ (w : WindowId) (k : Nat), t.maps[w].getLsbD k = true ↔
        s.maps[w].getLsbD k = true ∨
        (k < 64 ∧ ∃ e ∈ s.journal, ∃ line : LineNo,
          ((∃ b, e.body = .write w line b) ∨ ∃ d, e.body = .fill w line d) ∧
          s.windows[w].isMatch (64 * line.toNat) = true ∧ s.windows[w].trackOf (64 * line.toNat) = k) ∨
        (k < 64 ∧ ∃ p, s.resync.walk = some p ∧ p.window = w ∧ p.track = k)) ∧
      (∀ i : SlotId,
        ((∃ e ∈ s.journal, ∃ tag, e.body = .mark tag i) → t.slots[i] = { s.slots[i] with state := .failed }) ∧
        ((∀ e ∈ s.journal, ∀ tag, e.body ≠ .mark tag i) → t.slots[i] = s.slots[i])) ∧
      (∀ d : Cause, d ≠ .windowDiverged → d ≠ .windowInSync →
        (c.getLsbD d.position = true ↔
          hasCause s d = true ∨ d = .linkLost ∨
          (d = .checkpointFailed ∧ ∃ e ∈ s.journal, ∃ tag i, e.body = .mark tag i))) ∧
      (c.getLsbD Cause.windowDiverged.position = true ↔
        hasCause s .windowDiverged = true ∨ ∃ w : WindowId, syncState s w = .inSync ∧ t.maps[w] ≠ 0#64) ∧
      (c.getLsbD Cause.windowInSync.position = true ↔
        hasCause s .windowInSync = true ∨
        ∃ w : WindowId, s.windows[w].mode = .mirror ∧ syncState s w ≠ .inSync ∧ t.maps[w] = 0#64)) ∧
  (∀ (reason : LossReason) (peer : Option PartReason) (s : State), s.role ≠ .active → s.role ≠ .handingOver →
    endAssociation reason peer s = setCause .linkLost { s with
      link.lastLoss := reason, link.peerPart := peer, linkStats.lost := s.linkStats.lost + 1
      standby.resendException := false, link.acceptRepeat := false, standby.silenceTimer := none }) ∧
  (∀ (d : Nat) (s : State), s.resetLow = false → s.link.state = .up → s.role ≠ .active → s.role ≠ .handingOver →
    s.standby.silenceTimer = some d →
    exec .silenceTimerExpiry s = .next (settle s (setCause .linkLost (representHeld { s with
      link.state := .idle, link.lastLoss := .silence, link.peerPart := none, linkStats.lost := s.linkStats.lost + 1
      standby.resendException := false, link.acceptRepeat := false, standby.silenceTimer := none }))))

/-- A handover in progress at a loss (R12, R135).  With the TAKEOVER SENT the part is FENCED, a held write is faulted, every map is empty and
HANDOVER_FAILED and FENCED are set; without, it is ACTIVE again with its marks and HANDOVER_FAILED set.  The handover timer stops in both.  The
flush marks the lines its windows still hold and fails the slots of its MARKs (R41, R145), and a walk's track is marked again (R117).  That a
window's move at the flush sets its cause even where the part goes on to FENCED is log entry 9.
That a part without a TAKEOVER falls under the second case is log entry 13. -/
def Obligations.HandoverAtLoss : Prop :=
  ∀ (reason : LossReason) (peer : Option PartReason) (s t : State), s.role = .handingOver →
    t = endAssociation reason peer s →
    t.journal = [] ∧ t.handoverTimer = none ∧ t.keptSwap = none ∧ hasCause t .handoverFailed = true ∧
    hasCause t .linkLost = true ∧ t.link.lastLoss = reason ∧ t.link.peerPart = peer ∧ t.windows = s.windows ∧
    t.link.ackPoint = s.link.ackPoint ∧ t.link.sendPoint = s.link.sendPoint ∧ t.link.cursor = s.link.cursor ∧
    t.mem = s.mem ∧ t.standby = s.standby ∧ t.linkParams = s.linkParams ∧ t.pathParams = s.pathParams ∧
    t.resync = .idle ∧ t.link.peerHold = false ∧ t.link.replyTimer = none ∧ t.link.quietTimer = .stopped ∧ t.link.retry = 0 ∧
    t.linkStats = { s.linkStats with lost := s.linkStats.lost + 1 } ∧
    (∀ i : SlotId,
      ((∃ e ∈ s.journal, ∃ tag, e.body = .mark tag i) → t.slots[i] = { s.slots[i] with state := .failed }) ∧
      ((∀ e ∈ s.journal, ∀ tag, e.body ≠ .mark tag i) → t.slots[i] = s.slots[i])) ∧
    (hasCause t .checkpointFailed = true ↔
      hasCause s .checkpointFailed = true ∨ ∃ e ∈ s.journal, ∃ tag i, e.body = .mark tag i) ∧
    ((∃ w : WindowId, syncState s w = .inSync ∧ ∃ e ∈ s.journal, ∃ line bytes, e.body = .write w line bytes ∧
      s.windows[w].isMatch (64 * line.toNat) = true ∧ s.windows[w].trackOf (64 * line.toNat) < 64) →
        hasCause t .windowDiverged = true) ∧
    ((∃ e ∈ s.journal, e.body = .takeover ∧ ∃ q n, e.state = .sent q n) →
      t.role = .fenced ∧ hasCause t .fenced = true ∧ (∀ w : WindowId, t.maps[w] = 0#64) ∧
      (∀ a w, s.upstream = .held a w .handover →
        t.upstream = .none ∧ t.ending = some .fault ∧ hasCause t .writeRefused = true ∧
        t.windowStats = s.windowStats.set w { s.windowStats[w] with refused := s.windowStats[w].refused + 1 })) ∧
    ((∀ e ∈ s.journal, e.body = .takeover → ∀ q n, e.state ≠ .sent q n) →
      t.role = .active ∧ hasCause t .fenced = hasCause s .fenced ∧ t.windowStats = s.windowStats ∧
      (∀ (w : WindowId) (k : Nat), t.maps[w].getLsbD k = true ↔
        s.maps[w].getLsbD k = true ∨
        (k < 64 ∧ ∃ e ∈ s.journal, ∃ line : LineNo,
          ((∃ b, e.body = .write w line b) ∨ ∃ d, e.body = .fill w line d) ∧
          s.windows[w].isMatch (64 * line.toNat) = true ∧ s.windows[w].trackOf (64 * line.toNat) = k) ∨
        (k < 64 ∧ ∃ p, s.resync.walk = some p ∧ p.window = w ∧ p.track = k)) ∧
      (∀ a w, s.upstream = .held a w .handover → t.upstream = .requesting a false))

/-- PART and CLOSED (R51, R60, R61): in an association they end it, a PART answered with CLOSED; a CLOSED ends LEAVING, for IDLE or OFFLINE by
the link enable flag.  REC, ACK, RESEND, ASK, ACCEPT and DENY outside an association (R50, R51): answered with CLOSED in IDLE and JOINING for the
four transfer kinds, in IDLE for ACCEPT; ignored elsewhere.  A CLOSED is not queued behind another (R49).
That the frames that wait and an open body go on entry to OFFLINE is log entry 8. -/
def Obligations.FramesOfAssociation : Prop :=
  (∀ (reason : PartReason) (s : State), s.resetLow = false →
     (s.link.state = .up ∨ s.link.state = .recovery →
       exec (.partReceived reason) s =
         .next (settle s (enterLinkState .idle (endAssociation .peerPart (some reason) (sendClosed s)))) ∧
       exec .closedReceived s = .next (settle s (enterLinkState .idle (endAssociation .peerClosed none s)))) ∧
     (s.link.state = .leaving →
       exec (.partReceived reason) s = .next (settle s s) ∧
       (s.link.enable = true →
         exec .closedReceived s =
           .next (settle s (representHeld { s with link.state := .idle, link.replyTimer := none }))) ∧
       (s.link.enable = false →
         exec .closedReceived s =
           .next (settle s (representHeld { s with
             link.state := .offline, link.replyTimer := none, link.txQueue := [], link.rxBody := none })))) ∧
     (s.link.state = .idle ∨ s.link.state = .joining →
       exec (.partReceived reason) s = .next (settle s (sendClosed s)) ∧ exec .closedReceived s = .next (settle s s)) ∧
     (s.link.state = .offline → exec (.partReceived reason) s = .next (settle s s) ∧ exec .closedReceived s = .next (settle s s))) ∧
  (∀ (q a : Byte) (r : Record) (final hold swap : Bool) (reason : DenyReason) (s : State), s.resetLow = false → r.valid = true →
     (s.link.state = .idle ∨ s.link.state = .joining →
       exec (.recReceived q r) s = .next (settle s (sendClosed s)) ∧
       exec (.ackReceived a final hold swap) s = .next (settle s (sendClosed s)) ∧
       exec (.resendReceived a q hold) s = .next (settle s (sendClosed s)) ∧
       exec .askReceived s = .next (settle s (sendClosed s))) ∧
     (s.link.state = .leaving ∨ s.link.state = .offline →
       exec (.recReceived q r) s = .next (settle s s) ∧ exec (.ackReceived a final hold swap) s = .next (settle s s) ∧
       exec (.resendReceived a q hold) s = .next (settle s s) ∧ exec .askReceived s = .next (settle s s) ∧
       exec (.joinReceived q) s = .next (settle s s) ∧ exec (.acceptReceived q) s = .next (settle s s) ∧
       exec (.denyReceived q reason) s = .next (settle s s)) ∧
     (s.link.state = .idle →
       exec (.acceptReceived q) s = .next (settle s (sendClosed s)) ∧ exec (.denyReceived q reason) s = .next (settle s s)) ∧
     (Frame.closed ∈ s.link.txQueue → sendClosed s = s) ∧
     (Frame.closed ∉ s.link.txQueue → sendClosed s = sendFrame .closed s))

/-! ## The link: starting an association -/

/-- JOIN (R56, R57, R58).  In IDLE it is answered by role: ACCEPT with the link UP from an empty queue, deferred behind a queue, DENY otherwise;
in JOINING, and on the active side of an association, DENY ROLE_CONFLICT with its cause; on the standby side of an association a repeat is
accepted again, and any other JOIN ends it with PEER_REJOIN and is answered in IDLE. -/
def Obligations.JoinHandling : Prop :=
  ∀ (session : Byte) (s : State), s.resetLow = false →
    (s.link.state = .idle →
      (s.role = .standby → s.standby.queue = [] →
        exec (.joinReceived session) s = .next (settle s (acceptJoin session s))) ∧
      (s.role = .standby → s.standby.queue ≠ [] →
        exec (.joinReceived session) s = .next (settle s { s with link.deferredJoin := some session })) ∧
      (s.role = .active ∨ s.role = .handingOver →
        exec (.joinReceived session) s =
          .next (settle s (setCause .roleConflict (sendFrame (.deny session .roleConflict) s)))) ∧
      (s.role = .unassigned ∨ s.role = .fenced →
        exec (.joinReceived session) s = .next (settle s (sendFrame (.deny session .noRole) s))) ∧
      (s.role = .promoting →
        exec (.joinReceived session) s = .next (settle s (sendFrame (.deny session .roleChanging) s)))) ∧
    (s.link.state = .joining →
      exec (.joinReceived session) s =
        .next (settle s (setCause .roleConflict (sendFrame (.deny session .roleConflict) s)))) ∧
    (s.link.state = .up ∨ s.link.state = .recovery → s.role = .active ∨ s.role = .handingOver →
      exec (.joinReceived session) s =
        .next (settle s (setCause .roleConflict (sendFrame (.deny session .roleConflict) { s with
          link.quietTimer :=
            if s.linkParams.quiet = 0#8 then .stopped else .running (10 * s.linkParams.quiet.toNat) })))) ∧
    (s.link.state = .up → s.role = .standby →
      (s.link.acceptRepeat = true → session = s.link.session →
        exec (.joinReceived session) s =
          .next (settle s (sendFrame (.accept session) { s with
            standby.silenceTimer :=
              if s.linkParams.quiet = 0#8 then none else some (30 * s.linkParams.quiet.toNat) }))) ∧
      (s.link.acceptRepeat = false ∨ session ≠ s.link.session →
        ∃ t : State, t = enterLinkState .idle (endAssociation .peerRejoin none s) ∧
          (s.standby.queue = [] → exec (.joinReceived session) s = .next (settle s (acceptJoin session t))) ∧
          (s.standby.queue ≠ [] →
            exec (.joinReceived session) s = .next (settle s { t with link.deferredJoin := some session }))))

/-- ACCEPT and DENY (R51, R54, R59).  In JOINING one whose session is not the part's is ignored; a matching ACCEPT takes the link UP with every
sequence number 0, the retry count 0, the reply timer stopped, the quiet timer started and peer-hold clear; a matching DENY returns it to IDLE,
with join-suspended and ROLE_CONFLICT, or with JOIN_DENIED.  In an association both are ignored but heard.  The standby side enters UP with the
session of the JOIN it answers. -/
def Obligations.JoinAnswers : Prop :=
  (∀ (session : Byte) (reason : DenyReason) (s : State), s.resetLow = false → s.link.state = .joining →
    session ≠ s.link.session →
    exec (.acceptReceived session) s = .next (settle s s) ∧ exec (.denyReceived session reason) s = .next (settle s s)) ∧
  (∀ s : State, s.resetLow = false → s.link.state = .joining →
    exec (.acceptReceived s.link.session) s = .next (settle s (setCause .linkUp { s with
      link.state := .up, link.ackPoint := 0#8, link.sendPoint := 0#8, link.cursor := 0#8, standby.receiveNext := 0#8
      standby.appliedNext := 0#8, link.retry := 0, link.replyTimer := none, link.peerHold := false
      link.quietTimer := if s.linkParams.quiet = 0#8 then .stopped else .running (10 * s.linkParams.quiet.toNat) })) ∧
    exec (.denyReceived s.link.session .roleConflict) s = .next (settle s (setCause .roleConflict (representHeld { s with
      link.state := .idle, link.replyTimer := none, link.retry := 0, link.joinSuspended := true }))) ∧
    (∀ reason, reason ≠ .roleConflict →
      exec (.denyReceived s.link.session reason) s = .next (settle s (setCause .joinDenied (representHeld { s with
        link.state := .idle, link.replyTimer := none, link.retry := 0 }))))) ∧
  (∀ (session : Byte) (reason : DenyReason) (s : State), s.resetLow = false →
    s.link.state = .up ∨ s.link.state = .recovery →
    exec (.acceptReceived session) s = .next (settle s (heardOther s)) ∧
    exec (.denyReceived session reason) s = .next (settle s (heardOther s))) ∧
  (∀ (session : Byte) (s : State),
    acceptJoin session s = setCause .linkUp { sendFrame (.accept session) s with
      link.state := .up, link.session := session, link.ackPoint := 0#8, link.sendPoint := 0#8, link.cursor := 0#8
      standby.receiveNext := 0#8, standby.appliedNext := 0#8, link.retry := 0, link.peerHold := false
      link.deferredJoin := none, link.acceptRepeat := true, standby.resendException := false, standby.holding := false
      standby.sinceReport := 0
      standby.silenceTimer := if s.linkParams.quiet = 0#8 then none else some (30 * s.linkParams.quiet.toNat) })

/-- The timers of the active side.  REJOIN_DELAY_EXPIRY sends JOIN with a new session (R52).  REPLY_TIMER_EXPIRY repeats the JOIN in JOINING below the
retry limit and gives up for IDLE at it (R53), ends LEAVING in IDLE or OFFLINE by the link enable flag (R61), enters RECOVERY from UP with retry
count 1 and an ASK (R76), and in RECOVERY sends another ASK below the limit and ends the association with NO_REPLY at it (R84).
QUIET_TIMER_EXPIRY enters RECOVERY in UP with nothing SENT, and else leaves the timer expired (R78).  That an ASK follows other frames that
already wait is log entry 28.
That the frames that wait and an open body go on entry to OFFLINE is log entry 8. -/
def Obligations.LinkTimers : Prop :=
  ((∀ (d : Nat) (s : State), s.resetLow = false → s.link.rejoinTimer = some d → s.role = .active → s.link.enable = true →
     s.link.state = .idle → s.link.joinSuspended = false →
     exec .rejoinDelayExpiry s = .next (settle s (representHeld { sendFrame (.join (s.link.session + 1)) s with
       link.session := s.link.session + 1, link.state := .joining, link.retry := 1
       link.replyTimer := some s.linkParams.reply.toNat }))) ∧
   (∀ (d : Nat) (s : State), s.resetLow = false → s.link.replyTimer = some d → s.link.state = .joining →
     (s.link.retry < s.linkParams.retries.toNat →
       exec .replyTimerExpiry s = .next (settle s { sendFrame (.join s.link.session) s with
         link.retry := s.link.retry + 1, link.replyTimer := some s.linkParams.reply.toNat })) ∧
     (s.linkParams.retries.toNat ≤ s.link.retry →
       exec .replyTimerExpiry s = .next (settle s (representHeld { s with
         link.state := .idle, link.retry := 0, link.replyTimer := none })))) ∧
   (∀ (d : Nat) (s : State), s.resetLow = false → s.link.replyTimer = some d → s.link.state = .leaving →
     (s.link.enable = true →
       exec .replyTimerExpiry s = .next (settle s (representHeld { s with link.state := .idle, link.replyTimer := none }))) ∧
     (s.link.enable = false →
       exec .replyTimerExpiry s = .next (settle s (representHeld { s with
         link.state := .offline, link.replyTimer := none, link.txQueue := [], link.rxBody := none }))))) ∧
  ((∀ (d : Nat) (s : State), s.resetLow = false → s.link.replyTimer = some d → s.link.state = .up →
     exec .replyTimerExpiry s = .next (settle s { sendFrame .ask s with
       link.state := .recovery, link.retry := 1, link.replyTimer := some s.linkParams.reply.toNat
       linkStats.askSent := s.linkStats.askSent + 1 })) ∧
   (∀ (d : Nat) (s : State), s.resetLow = false → s.link.replyTimer = some d → s.link.state = .recovery →
     (s.link.retry < s.linkParams.retries.toNat →
       exec .replyTimerExpiry s = .next (settle s { sendFrame .ask s with
         link.retry := s.link.retry + 1, link.replyTimer := some s.linkParams.reply.toNat
         linkStats.askSent := s.linkStats.askSent + 1 })) ∧
     (s.linkParams.retries.toNat ≤ s.link.retry →
       exec .replyTimerExpiry s = .next (settle s (enterLinkState .idle (endAssociation .noReply none s))))) ∧
   (∀ (d : Nat) (s : State), s.resetLow = false → s.link.quietTimer = .running d →
     (s.link.state = .up → (∀ e ∈ s.journal, ∀ q n, e.state ≠ .sent q n) →
       exec .quietTimerExpiry s = .next (settle s { sendFrame .ask s with
         link.state := .recovery, link.retry := 1, link.quietTimer := .expired
         link.replyTimer := some s.linkParams.reply.toNat, linkStats.askSent := s.linkStats.askSent + 1 })) ∧
     (s.link.state ≠ .up ∨ (∃ e ∈ s.journal, ∃ q n, e.state = .sent q n) →
       exec .quietTimerExpiry s = .next (settle s { s with link.quietTimer := .expired }))))

/-- LINK CONTROL.  Enable sets the flag, clears join-suspended and takes OFFLINE to IDLE (R47).  Disable clears the flag, takes IDLE to OFFLINE
with a deferred JOIN forgotten, leaves JOINING with a PART, and ends an association with LOCAL, a PART and LEAVING (R48, R61).  Any other
operation is refused with BAD_PARAM; which row of the table carries it is log entry 14.
That the frames that wait and an open body go on entry to OFFLINE is log entry 8. -/
def Obligations.LinkControl : Prop :=
  ∀ s : State, s.resetLow = false →
    (s.link.state = .offline →
      exec (.linkControlEnable 0x01#8) s = .next (answer 0x74#8 .ok 0 [] (settle s (representHeld { s with
        link.enable := true, link.joinSuspended := false, link.state := .idle, link.retry := 0 })))) ∧
    (s.link.state ≠ .offline →
      exec (.linkControlEnable 0x01#8) s = .next (answer 0x74#8 .ok 0 [] (settle s { s with
        link.enable := true, link.joinSuspended := false }))) ∧
    (s.link.state = .offline ∨ s.link.state = .leaving →
      exec (.linkControlDisable 0x02#8) s = .next (answer 0x74#8 .ok 0 [] (settle s { s with link.enable := false }))) ∧
    (s.link.state = .idle →
      exec (.linkControlDisable 0x02#8) s = .next (answer 0x74#8 .ok 0 [] (settle s (representHeld { s with
        link.enable := false, link.state := .offline, link.deferredJoin := none, link.txQueue := [], link.rxBody := none })))) ∧
    (s.link.state = .joining →
      exec (.linkControlDisable 0x02#8) s = .next (answer 0x74#8 .ok 0 [] (settle s (representHeld
        { sendFrame (.part .disabled) s with
          link.enable := false, link.state := .leaving, link.retry := 0
          link.replyTimer := some s.linkParams.reply.toNat })))) ∧
    (s.link.state = .up ∨ s.link.state = .recovery →
      ∃ t : State, t = endAssociation .locally none { s with link.enable := false } ∧
        exec (.linkControlDisable 0x02#8) s = .next (answer 0x74#8 .ok 0 [] (settle s (representHeld
          { sendFrame (.part .disabled) t with
            link.state := .leaving, link.replyTimer := some t.linkParams.reply.toNat })))) ∧
    (∀ operation : Byte, operation ≠ 0x01#8 → operation ≠ 0x02#8 →
      exec (.linkControlDisable operation) s = .next (answer 0x74#8 .badParam 0 [] s))

/-! ## The transfer of records -/

/-- The transmitter (R49): a frame decided is sent at once by a free transmitter and in its turn otherwise; FRAME_TRANSMISSION_END sends the next
that waits.  FRAME_DISCARD counts a discarded body and does nothing else, and in OFFLINE not even that (R50). -/
def Obligations.Transmitter : Prop :=
  (∀ (f : Frame) (s : State),
    (s.link.tx = none → s.link.txQueue = [] → sendFrame f s = { s with link.tx := some f }) ∧
    (∀ g, s.link.tx = some g → sendFrame f s = { s with link.txQueue := s.link.txQueue ++ [f] })) ∧
  (∀ (f : Frame) (rest : List Frame) (s : State), s.resetLow = false → s.link.txQueue = f :: rest →
    exec .frameTransmissionEnd s = .next { s with link.tx := some f, link.txQueue := rest }) ∧
  (∀ s : State, s.resetLow = false → s.link.txQueue = [] →
    exec .frameTransmissionEnd s = .next { s with link.tx := none }) ∧
  (∀ (how : DiscardCause) (s : State), s.resetLow = false →
    (s.link.state ≠ .offline →
      exec (.frameDiscard how) s = .next { s with linkStats.discarded := s.linkStats.discarded + 1 }) ∧
    (s.link.state = .offline → exec (.frameDiscard how) s = .next s))

/-- REC_DECISION (R36, R37, R69, R70).  With the link UP on the active side, peer-hold clear and the transmitter free: a cursor short of S sends
its SENT entry again, the send count raised; a cursor at S sends the oldest entry that is not SENT, if it is PENDING and the transmit window
has room, with S as its sequence, and starts the reply timer where nothing was SENT.  The kept SWAP ASEQ goes (R138).  Otherwise no REC is
decided.  A REC carries its entry's kind and contents, less the window number (R37).
That the event then changes nothing is log entry 6. -/
def Obligations.RecDecision : Prop :=
  ((∀ w line bytes, (Body.write w line bytes).record = .write line bytes) ∧
    (∀ w line data, (Body.fill w line data).record = .fill line data) ∧
    (∀ tag (i : SlotId), (Body.mark tag i).record = .mark tag (BitVec.ofNat 8 i.val)) ∧ Body.takeover.record = .takeover) ∧
  ∀ s : State, s.resetLow = false →
    (s.link.state = .up → s.role = .active ∨ s.role = .handingOver → s.link.peerHold = false → s.link.tx = none →
      s.link.txQueue = [] →
      (∀ (older younger : List Entry) (b : Body) (n : Nat), s.link.cursor ≠ s.link.sendPoint →
        s.journal = older ++ [{ body := b, state := .sent s.link.cursor n }] ++ younger →
        (∀ e ∈ older ++ younger, ∀ k, e.state ≠ .sent s.link.cursor k) →
        exec .recDecision s = .next { s with
          journal := older ++ [{ body := b, state := .sent s.link.cursor (n + 1) }] ++ younger
          link.cursor := s.link.cursor + 1, linkStats.retransmitted := s.linkStats.retransmitted + 1
          link.tx := some (.record s.link.cursor b.record), keptSwap := none }) ∧
      (∀ (older younger : List Entry) (b : Body), s.link.cursor = s.link.sendPoint →
        s.journal = older ++ [{ body := b, state := .pending }] ++ younger →
        (∀ e ∈ older, ∃ q n, e.state = .sent q n) →
        sentEntries s < s.linkParams.window.toNat →
        exec .recDecision s = .next { s with
          journal := older ++ [{ body := b, state := .sent s.link.sendPoint 1 }] ++ younger
          link.sendPoint := s.link.sendPoint + 1, link.cursor := s.link.sendPoint + 1
          linkStats.sentFirst := s.linkStats.sentFirst + 1
          link.replyTimer := if sentEntries s = 0 then some s.linkParams.reply.toNat else s.link.replyTimer
          link.tx := some (.record s.link.sendPoint b.record), keptSwap := none }) ∧
      (∀ (older younger : List Entry) (b : Body), s.link.cursor = s.link.sendPoint →
        s.journal = older ++ [{ body := b, state := .filling }] ++ younger → (∀ e ∈ older, ∃ q n, e.state = .sent q n) →
        exec .recDecision s = .next s) ∧
      (s.link.cursor = s.link.sendPoint → (∀ e ∈ s.journal, ∃ q n, e.state = .sent q n) ∨
          s.linkParams.window.toNat ≤ sentEntries s →
        exec .recDecision s = .next s)) ∧
    (s.link.state ≠ .up ∨ (s.role ≠ .active ∧ s.role ≠ .handingOver) ∨ s.link.peerHold = true ∨ s.link.tx ≠ none ∨
        s.link.txQueue ≠ [] →
      exec .recDecision s = .next s)

/-- ACK and RESEND on the active side of an association.  One that fails R71 ends it with SEQUENCE.  A valid ACK in UP removes, takes HOLD, and
restarts the reply timer where A advanced, stopping it with nothing SENT (R72, R75); with FINAL in RECOVERY it ends RECOVERY with a go-back (R81),
without it only removes and takes HOLD (R82); one that removes the TAKEOVER completes the handover (R133).  A valid RESEND also moves the cursor and
restarts the reply timer in UP (R73, R83).  Elsewhere in an association both are ignored (R51).  That the removal moves a cursor before the new A
up to it in RECOVERY too, where R82 has the cursor unchanged, is the model's choice (log entry 29). -/
def Obligations.AckAndResend : Prop :=
  ∀ (aseq rseq : Byte) (final hold swap : Bool) (s : State), s.resetLow = false →
    s.link.state = .up ∨ s.link.state = .recovery →
    (s.role ≠ .active → s.role ≠ .handingOver →
      exec (.ackReceived aseq final hold swap) s = .next (settle s (heardOther s)) ∧
      exec (.resendReceived aseq rseq hold) s = .next (settle s (heardOther s))) ∧
    (s.role = .active ∨ s.role = .handingOver →
      ∃ (inRange takesOver : Bool) (h t : State),
        (inRange = true ↔ (aseq - s.link.ackPoint).toNat ≤ (s.link.sendPoint - s.link.ackPoint).toNat) ∧
        (takesOver = true ↔ ∃ e ∈ s.journal, e.body = .takeover ∧ ∃ q n, e.state = .sent q n ∧
          (q - s.link.ackPoint).toNat < (aseq - s.link.ackPoint).toNat) ∧
        h = { s with
          link.acceptRepeat := false
          link.quietTimer := if s.linkParams.quiet = 0#8 then .stopped else .running (10 * s.linkParams.quiet.toNat) } ∧
        t = removeAcknowledged aseq h ∧
        (inRange = false ∨ takesOver ≠ swap →
          exec (.ackReceived aseq final hold swap) s =
            .next (settle s (enterLinkState .idle (endAssociation .sequence none s)))) ∧
        (inRange = true → takesOver = true → swap = true →
          exec (.ackReceived aseq final hold swap) s = .next (settle s (completeHandover t))) ∧
        (inRange = true → takesOver = false → swap = false →
          (s.link.state = .up →
            exec (.ackReceived aseq final hold swap) s = .next (settle s { t with
              link.peerHold := hold
              link.replyTimer :=
                if sentEntries t = 0 then none
                else if aseq ≠ s.link.ackPoint then some s.linkParams.reply.toNat else s.link.replyTimer })) ∧
          (s.link.state = .recovery → final = true →
            exec (.ackReceived aseq final hold swap) s = .next (settle s { t with
              link.peerHold := hold, link.state := .up, link.retry := 0
              link.cursor := if sentEntries t = 0 then t.link.cursor else aseq
              link.replyTimer := if sentEntries t = 0 then none else some s.linkParams.reply.toNat })) ∧
          (s.link.state = .recovery → final = false →
            exec (.ackReceived aseq final hold swap) s = .next (settle s { t with link.peerHold := hold }))) ∧
        (inRange = false ∨ takesOver = true ∨
            (s.link.sendPoint - aseq).toNat < (rseq - aseq).toNat →
          exec (.resendReceived aseq rseq hold) s =
            .next (settle s (enterLinkState .idle (endAssociation .sequence none s)))) ∧
        (inRange = true → takesOver = false → (rseq - aseq).toNat ≤ (s.link.sendPoint - aseq).toNat →
          exec (.resendReceived aseq rseq hold) s = .next (settle s { t with
            link.peerHold := hold, link.cursor := rseq
            linkStats.resendReceived := s.linkStats.resendReceived + 1
            link.replyTimer :=
              if s.link.state = .recovery then s.link.replyTimer
              else if sentEntries t = 0 then none else some s.linkParams.reply.toNat })))

/-- Removal by acknowledgement (R39, R40, R144).  Every SENT entry before ASEQ leaves, A becomes ASEQ and a cursor behind it follows (R38; in
RECOVERY, where R82 says otherwise, by log entry 29); the slots of removed MARKs are DONE with CHECKPOINT_DONE; a write held for STALL is re-presented where an entry is freed.  With the SENT entries in
sequence from A, the (ASEQ − A) oldest entries are those that leave. -/
def Obligations.RemovalByAcknowledgement : Prop :=
  ∀ (aseq : Byte) (s : State),
    ∃ (gone : Entry → Bool) (t : State),
      (∀ e, gone e = true ↔ ∃ q n, e.state = .sent q n ∧ (q - s.link.ackPoint).toNat < (aseq - s.link.ackPoint).toNat) ∧
      t = { s with
        journal := s.journal.filter fun e => !gone e
        link.ackPoint := aseq
        link.cursor :=
          if (s.link.cursor - s.link.ackPoint).toNat < (aseq - s.link.ackPoint).toNat then aseq else s.link.cursor
        slots := t.slots, causes := t.causes } ∧
      removeAcknowledged aseq s = (if s.journal.any gone then representStalled t else t) ∧
      (∀ i : SlotId,
        ((∃ e ∈ s.journal, gone e = true ∧ ∃ tag, e.body = .mark tag i) → t.slots[i] = { s.slots[i] with state := .done }) ∧
        ((∀ e ∈ s.journal, gone e = true → ∀ tag, e.body ≠ .mark tag i) → t.slots[i] = s.slots[i])) ∧
      (∀ c : Cause, hasCause t c = true ↔
        hasCause s c = true ∨ (c = .checkpointDone ∧ ∃ e ∈ s.journal, gone e = true ∧ ∃ tag i, e.body = .mark tag i)) ∧
      (sentInOrder s.link.ackPoint s.journal = true → sentEntries s ≤ 32 →
        (aseq - s.link.ackPoint).toNat ≤ sentEntries s →
        t.journal = s.journal.drop (aseq - s.link.ackPoint).toNat ∧ sentInOrder aseq t.journal = true)

/-! ## Roles -/

/-- R125: SET ROLE refuses an undefined target with BAD_PARAM and every combination the table marks with WRONG_ROLE, changing nothing; the others are
accepted, in every link state, with the target as the role and the link enable flag as it was. -/
def Obligations.SetRoleTable : Prop :=
  ∀ (target : Byte) (s : State), s.resetLow = false →
    (2 < target.toNat → exec (.setRole target) s = .next (answer 0x70#8 .badParam 0 [] s)) ∧
    (target.toNat ≤ 2 →
      ((s.role = .unassigned ∧ target ≠ 0x00#8) ∨ (s.role = .active ∧ target = 0x00#8) ∨
          (s.role = .standby ∧ target = 0x00#8) ∨ (s.role = .fenced ∧ target ≠ 0x01#8) →
        ∃ t, exec (.setRole target) s = .next t ∧ t.lastResult = { result := .ok, code := 0x70#8, slot := 0 } ∧
          t.role = (if target = 0x00#8 then .unassigned else if target = 0x01#8 then .active else .standby) ∧
          t.link.enable = s.link.enable) ∧
      (¬((s.role = .unassigned ∧ target ≠ 0x00#8) ∨ (s.role = .active ∧ target = 0x00#8) ∨
          (s.role = .standby ∧ target = 0x00#8) ∨ (s.role = .fenced ∧ target ≠ 0x01#8)) →
        exec (.setRole target) s = .next (answer 0x70#8 .wrongRole 0 [] s)))

/-- A change of role, in one event (R124): join-suspended and the kept SWAP ASEQ go (R55, R138), a held write is re-presented (R14), leaving ACTIVE
stops the resync engine (R117), leaving the active side empties maps and journal (R43, R110), and a deferred JOIN is denied where the new role
is UNASSIGNED, PROMOTING or ACTIVE (R57). -/
def Obligations.ChangeOfRole : Prop :=
  ∀ (new : Role) (s : State),
    ∃ t : State,
      t = { representHeld s with
        role := new, link.joinSuspended := false, keptSwap := none
        resync := if s.role = .active ∧ new ≠ .active then .idle else s.resync
        port :=
          if s.role = .active ∧ new ≠ .active then
            s.port.map fun p => if p.owner = .resync then { p with owner := .dropped } else p
          else s.port
        maps := t.maps
        journal :=
          if (s.role = .active ∨ s.role = .handingOver) ∧ new ≠ .active ∧ new ≠ .handingOver then [] else s.journal } ∧
      ((s.role = .active ∨ s.role = .handingOver) → new ≠ .active → new ≠ .handingOver → ∀ w : WindowId, t.maps[w] = 0#64) ∧
      (s.role = .active → new = .handingOver → ∀ w : WindowId, ∀ k : Nat, t.maps[w].getLsbD k = true ↔
        s.maps[w].getLsbD k = true ∨ (k < 64 ∧ ∃ p, s.resync.walk = some p ∧ p.window = w ∧ p.track = k)) ∧
      ((s.role ≠ .active ∧ s.role ≠ .handingOver) ∨ new = .active ∨ (s.role = .handingOver ∧ new = .handingOver) →
        t.maps = s.maps) ∧
      (s.link.deferredJoin = none → changeRole new s = t) ∧
      (∀ session, s.link.deferredJoin = some session →
        (new = .unassigned →
          changeRole new s = sendFrame (.deny session .noRole) { t with link.deferredJoin := none }) ∧
        (new = .promoting →
          changeRole new s = sendFrame (.deny session .roleChanging) { t with link.deferredJoin := none }) ∧
        (new = .active →
          changeRole new s =
            setCause .roleConflict (sendFrame (.deny session .roleConflict) { t with link.deferredJoin := none })) ∧
        (new = .standby ∨ new = .handingOver ∨ new = .fenced → changeRole new s = t))

/-- SET ROLE's effects.  Into ACTIVE with all 64 tracks of every MIRROR window marked (R111, R126); into STANDBY, and from FENCED to UNASSIGNED, the
change of role alone; from ACTIVE or STANDBY to UNASSIGNED after the association or the joining has ended with a PART (R62, R127), a standby's
queue being discarded with P at the value of R (R105). -/
def Obligations.RoleAssignments : Prop :=
  ∀ s : State, s.resetLow = false →
    (s.role = .unassigned →
      exec (.setRole 0x01#8) s = .next (answer 0x70#8 .ok 0 [] (settle s { changeRole .active s with
        maps := Vector.ofFn fun w : Fin 8 => if s.windows[w].mode = .mirror then BitVec.allOnes 64 else s.maps[w] }))) ∧
    (s.role = .unassigned ∨ s.role = .fenced →
      exec (.setRole 0x02#8) s = .next (answer 0x70#8 .ok 0 [] (settle s (changeRole .standby s)))) ∧
    (s.role = .fenced →
      exec (.setRole 0x00#8) s = .next (answer 0x70#8 .ok 0 [] (settle s (changeRole .unassigned s)))) ∧
    (s.role = .active ∨ s.role = .standby →
      ∃ ended left : State,
        ended = endAssociation .locally none s ∧
        (s.link.state = .up ∨ s.link.state = .recovery →
          left = representHeld { sendFrame (.part .roleChange) ended with
            link.state := .leaving, link.replyTimer := some ended.linkParams.reply.toNat }) ∧
        (s.link.state = .joining →
          left = representHeld { sendFrame (.part .roleChange) s with
            link.state := .leaving, link.replyTimer := some s.linkParams.reply.toNat, link.retry := 0 }) ∧
        (s.link.state = .offline ∨ s.link.state = .idle ∨ s.link.state = .leaving → left = s) ∧
        (s.role = .active →
          exec (.setRole 0x00#8) s = .next (answer 0x70#8 .ok 0 [] (settle s (changeRole .unassigned left)))) ∧
        (s.role = .standby →
          exec (.setRole 0x00#8) s = .next (answer 0x70#8 .ok 0 [] (settle s { changeRole .unassigned left with
            standby.queue := [], standby.engine := .idle, standby.appliedNext := s.standby.receiveNext
            standby.resendException := false, standby.holding := false, standby.sinceReport := 0
            port := s.port.map fun p => if p.owner = .apply then { p with owner := .dropped } else p }))))

/-- PROMOTE (R128 to R130): the refusals in their order; a FENCED part, and a STANDBY part with an empty queue, is ACTIVE at once with full marking and
PROMOTED; a STANDBY part with a queue is PROMOTING.  Where the link is UP the association ends first, with LOCAL and a PART. -/
def Obligations.Promotion : Prop :=
  ∀ (force : Byte) (s : State), s.resetLow = false →
    (1 < force.toNat → exec (.promote force) s = .next (answer 0x71#8 .badParam 0 [] s)) ∧
    (force.toNat ≤ 1 →
      (s.role = .active ∨ s.role = .handingOver ∨ s.role = .unassigned ∨ s.role = .promoting →
        exec (.promote force) s = .next (answer 0x71#8 .wrongRole 0 [] s)) ∧
      (s.role = .fenced → exec (.promote force) s = .next (answer 0x71#8 .ok 0 [] (settle s (completePromotion s)))) ∧
      (s.role = .standby → s.link.state = .up → force = 0x00#8 →
        exec (.promote force) s = .next (answer 0x71#8 .busy 0 [] s)) ∧
      (s.role = .standby → s.link.state ≠ .up ∨ force = 0x01#8 →
        ∃ ended left : State,
          ended = endAssociation .locally none s ∧
          (s.link.state = .up →
            left = representHeld { sendFrame (.part .roleChange) ended with
              link.state := .leaving, link.replyTimer := some ended.linkParams.reply.toNat }) ∧
          (s.link.state ≠ .up → left = s) ∧
          (s.standby.queue ≠ [] →
            exec (.promote force) s = .next (answer 0x71#8 .ok 0 [] (settle s (changeRole .promoting left)))) ∧
          (s.standby.queue = [] →
            exec (.promote force) s =
              .next (answer 0x71#8 .ok 0 [] (settle s (completePromotion (changeRole .promoting left))))))) ∧
    completePromotion s = setCause .promoted { changeRole .active s with
      maps := Vector.ofFn fun w : Fin 8 =>
        if s.windows[w].mode = .mirror then BitVec.allOnes 64 else (changeRole .active s).maps[w] }

/-- HANDOVER (R131): the checks in their order; then a PENDING TAKEOVER at the young end, the role HANDING_OVER and the handover timer.
HANDOVER_TIMER_EXPIRY withdraws a PENDING TAKEOVER, the role returns to ACTIVE and HANDOVER_FAILED is set; a TAKEOVER that is SENT stays (R34,
R134).  At the removal of the TAKEOVER the part is STANDBY in UP with both directions zeroed, a held write faulted, the standby side started and
HANDOVER_DONE set (R133). -/
def Obligations.PlannedHandover : Prop :=
  (∀ s : State, s.resetLow = false →
     (s.role ≠ .active → exec .handover s = .next (answer 0x72#8 .wrongRole 0 [] s)) ∧
     (s.role = .active →
       (s.link.state = .recovery → exec .handover s = .next (answer 0x72#8 .busy 0 [] s)) ∧
       (s.link.state ≠ .up → s.link.state ≠ .recovery → exec .handover s = .next (answer 0x72#8 .linkDown 0 [] s)) ∧
       (s.link.state = .up →
         ((∃ w : WindowId, s.windows[w].mode = .mirror ∧ syncState s w ≠ .inSync) →
           exec .handover s = .next (answer 0x72#8 .notInSync 0 [] s)) ∧
         ((∀ w : WindowId, s.windows[w].mode = .mirror → syncState s w = .inSync) →
           ((∃ a w, s.upstream = .held a w .stall) ∨ (∃ a, s.upstream = .requesting a true) ∨
               (∃ walk n, s.resync = .reading walk n) →
             exec .handover s = .next (answer 0x72#8 .busy 0 [] s)) ∧
           ((∀ a w, s.upstream ≠ .held a w .stall) → (∀ a, s.upstream ≠ .requesting a true) →
               (∀ walk n, s.resync ≠ .reading walk n) →
             (64 ≤ s.journal.length → exec .handover s = .next (answer 0x72#8 .full 0 [] s)) ∧
             (s.journal.length < 64 →
               exec .handover s = .next (answer 0x72#8 .ok 0 [] (settle s
                 { changeRole .handingOver { s with journal := s.journal ++ [{ body := .takeover, state := .pending }] } with
                   handoverTimer := some (10 * s.pathParams.handoverTime.toNat) })))))))) ∧
  ((∀ (d : Nat) (s : State), s.resetLow = false → s.role = .handingOver → s.handoverTimer = some d →
     (∀ older, s.journal = older ++ [{ body := .takeover, state := .pending }] →
       exec .handoverTimerExpiry s = .next (settle s (setCause .handoverFailed
         (changeRole .active { s with handoverTimer := none, journal := older })))) ∧
     ((∀ older, s.journal ≠ older ++ [{ body := .takeover, state := .pending }]) →
       exec .handoverTimerExpiry s = .next (settle s { s with handoverTimer := none }))) ∧
   (∀ s : State,
     completeHandover s = setCause .handoverDone { changeRole .standby (faultHeld { s with handoverTimer := none }) with
       link.state := .up, link.ackPoint := 0#8, link.sendPoint := 0#8, link.cursor := 0#8
       standby.receiveNext := 0#8, standby.appliedNext := 0#8, link.peerHold := false, link.retry := 0
       link.replyTimer := none, link.quietTimer := .stopped, link.acceptRepeat := false
       standby.resendException := false, standby.holding := false, standby.sinceReport := 0
       standby.silenceTimer := if s.linkParams.quiet = 0#8 then none else some (30 * s.linkParams.quiet.toNat) }))

/-- R136: no event takes a part out of FENCED but SET ROLE to STANDBY or UNASSIGNED, PROMOTE and the part's own resets. -/
def Obligations.FencedIsLeftByCommandAlone : Prop :=
  ∀ (i : Instr) (s t : State), s.role = .fenced → exec i s = .next t → t.role ≠ .fenced →
    i = .setRole 0x00#8 ∨ i = .setRole 0x02#8 ∨ (∃ force, i = .promote force) ∨ i = .softReset ∨ i = .resetPin

/-! ## Checkpoints and resets -/

/-- CHECKPOINT (R142): the checks in their order; then the lowest FREE slot opens with the tag, tainted where a MIRROR window does not read IN_SYNC
(R143), and its MARK joins the journal, before a PENDING TAKEOVER (R33).  RELEASE CHECKPOINT frees a DONE or FAILED slot and refuses any other
(R146). -/
def Obligations.CheckpointCommands : Prop :=
  (∀ (tag : Byte) (s : State), s.resetLow = false →
    (s.role ≠ .active → s.role ≠ .handingOver → exec (.checkpoint tag) s = .next (answer 0x80#8 .wrongRole 0 [] s)) ∧
    (s.role = .active ∨ s.role = .handingOver →
      (s.link.state ≠ .up → s.link.state ≠ .recovery →
        exec (.checkpoint tag) s = .next (answer 0x80#8 .linkDown 0 [] s)) ∧
      (s.link.state = .up ∨ s.link.state = .recovery →
        ((∃ e ∈ s.journal, e.body = .takeover ∧ ∃ q n, e.state = .sent q n) →
          exec (.checkpoint tag) s = .next (answer 0x80#8 .busy 0 [] s)) ∧
        ((∀ e ∈ s.journal, e.body = .takeover → ∀ q n, e.state ≠ .sent q n) →
          ((∀ i : SlotId, s.slots[i].state ≠ .free) ∨ 64 ≤ s.journal.length →
            exec (.checkpoint tag) s = .next (answer 0x80#8 .full 0 [] s)) ∧
          (∀ i : SlotId, s.slots[i].state = .free → (∀ j : SlotId, j < i → s.slots[j].state ≠ .free) →
            s.journal.length < 64 →
            ∃ t : State,
              exec (.checkpoint tag) s = .next (answer 0x80#8 .ok i [] (settle s t)) ∧
              t = { s with slots := t.slots, journal := t.journal } ∧
              t.slots[i].state = .opened ∧ t.slots[i].tag = tag ∧
              (t.slots[i].taint = true ↔ ∃ w : WindowId, s.windows[w].mode = .mirror ∧ syncState s w ≠ .inSync) ∧
              (∀ j : SlotId, j ≠ i → t.slots[j] = s.slots[j]) ∧
              (∀ older, s.journal = older ++ [{ body := .takeover, state := .pending }] →
                t.journal = older ++ [{ body := .mark tag i, state := .pending }, { body := .takeover, state := .pending }]) ∧
              ((∀ older, s.journal ≠ older ++ [{ body := .takeover, state := .pending }]) →
                t.journal = s.journal ++ [{ body := .mark tag i, state := .pending }])))))) ∧
  (∀ (slot : Byte) (s : State), s.resetLow = false → 3 < slot.toNat →
    exec (.releaseCheckpoint slot) s = .next (answer 0x82#8 .badParam 0 [] s)) ∧
  (∀ (i : SlotId) (s : State), s.resetLow = false →
    (s.slots[i].state = .free ∨ s.slots[i].state = .opened →
      exec (.releaseCheckpoint (BitVec.ofNat 8 i.val)) s = .next (answer 0x82#8 .badParam 0 [] s)) ∧
    (s.slots[i].state = .done ∨ s.slots[i].state = .failed →
      exec (.releaseCheckpoint (BitVec.ofNat 8 i.val)) s = .next (answer 0x82#8 .ok 0 []
        { s with slots := s.slots.set i { state := .free, tag := 0#8, taint := false } })))

/-- SOFT RESET (R21, R43, R67, R106, R119, R140, R148, R160, R176): the dynamic state as after RESET#, a held write re-presented, the downstream access
and the frame under way completed, an internal access with nobody to tell; windows, parameters, mask, statistics and memory kept.  That a body open
at the receiver goes uncounted, as at any entry to OFFLINE, is log entry 8; that the ending last given upstream is kept is log entry 16. -/
def Obligations.SoftReset : Prop :=
  ∀ s : State, s.resetLow = false →
    exec .softReset s = .next (answer 0xF0#8 .ok 0 [] { State.reset with
      windows := s.windows
      upstream :=
        match s.upstream with
        | .held a _ _ => .requesting a false
        | .none => .none
        | .requesting a forced => .requesting a forced
        | .inProgress a => .inProgress a
      ending := s.ending
      port := s.port.map fun p => if p.owner = .upstream then p else { p with owner := .dropped }
      link := { State.reset.link with tx := s.link.tx }
      mem := s.mem, mask := s.mask, spi := s.spi, linkParams := s.linkParams, pathParams := s.pathParams
      windowStats := s.windowStats, linkStats := s.linkStats, freeCount := s.freeCount, pending := s.pending })

/-- RESET# and its release.  The fields of the part take the values their rules give, whatever they were (R1, R22, R67, R106, R119, R124, R141, R154,
R161, R164, R168, R172, R174), an open transfer of the management port is abandoned (R165), and memory keeps every byte but those of an abandoned
write (R161).  Until RESET# rises no other command changes the part: R161 and R165 say so of the bus and the port, and of the rest it is log entry
7.  At the rise the port waits for CS# to go high where CS# is low (R165).  The values of the model's own fields, the last ending, the data-out, the
count of free values and the waiting commands, are log entry 16. -/
def Obligations.PinResets : Prop :=
  (∀ s : State, ∃ t : State, exec .resetPin s = .next t ∧
    t.windows = Vector.replicate 8 { mode := .off, base := 0#24, sizeExp := 0, policy := .stall } ∧
    t.upstream = .none ∧ t.ending = none ∧ t.stallTimer = none ∧ t.journal = [] ∧ t.maps = Vector.replicate 8 0#64 ∧
    t.resync = .idle ∧ t.role = .unassigned ∧ t.handoverTimer = none ∧ t.keptSwap = none ∧
    t.slots = Vector.replicate 4 { state := .free, tag := 0#8, taint := false } ∧ t.port = none ∧ t.upstreamRun = 0 ∧
    t.causes = 0#16 ∧ t.mask = 0xFFFF#16 ∧ t.lastResult = { result := .ok, code := 0#8, slot := 0 } ∧
    t.linkParams = { window := 8#8, reply := 10#8, retries := 3#8, quiet := 20#8, rejoin := 10#8 } ∧
    t.pathParams = { stall := 100#16, fairness := 4#8, reserve := 8#8, handoverTime := 50#8 } ∧
    t.link.state = .offline ∧ t.link.enable = false ∧ t.link.session = 0#8 ∧ t.link.joinSuspended = false ∧ t.link.retry = 0 ∧
    t.link.deferredJoin = none ∧ t.link.acceptRepeat = false ∧ t.link.lastLoss = .none ∧ t.link.peerPart = none ∧
    t.link.ackPoint = 0#8 ∧ t.link.sendPoint = 0#8 ∧ t.link.cursor = 0#8 ∧ t.link.peerHold = false ∧
    t.link.rejoinTimer = none ∧ t.link.replyTimer = none ∧ t.link.quietTimer = .stopped ∧ t.link.tx = none ∧
    t.link.txQueue = [] ∧ t.link.rxBody = none ∧
    t.standby = { queue := [], engine := .idle, receiveNext := 0#8, appliedNext := 0#8, resendException := false, holding := false,
                  sinceReport := 0, silenceTimer := none } ∧
    (∀ w : WindowId, t.windowStats[w] = ⟨0#32, 0#32, 0#32, 0#32, 0#32, 0#32⟩) ∧
    t.linkStats = ⟨0#32, 0#32, 0#32, 0#32, 0#32, 0#32, 0#32⟩ ∧ t.resetLow = true ∧ t.spi = .closed ∧ t.dataOut = [] ∧
    t.freeCount = s.freeCount + 1 ∧ t.pending = s.pending ∧
    (s.port = none → t.mem = s.mem) ∧
    (∀ p, s.port = some p → memoryCanonical s = true → ∀ k : Nat,
      k / 4 ≠ p.access.addr.toNat ∨ p.access.kind = .read → Memory.read t.mem k = Memory.read s.mem k)) ∧
  (∀ (csLow : Bool) (s : State), s.resetLow = true →
    exec (.resetRelease csLow) s = .next { s with resetLow := false, spi := if csLow then .waitHigh else .closed }) ∧
  (∀ (c : Instr) (s : State), s.resetLow = true → c ≠ .resetPin → (∀ csLow, c ≠ .resetRelease csLow) → exec c s = .next s)

/-! ## What crosses the pins -/

/-- A frame sent and received whole is the frame that was sent: its body, check value included, decodes to it, for every kind and every field, and
every record a valid REC can carry (R179, R180); and the register over a body with its check value appended is 0 (R179). -/
def Obligations.FrameRoundTrip : Prop :=
  (∀ f : Frame, (∀ q r, f = .record q r → r.valid = true) →
     decodeBody f.body = some f ∧ 4 ≤ f.body.length ∧ f.body.length ≤ 81) ∧
  (∀ bytes : List Byte, crc16 (bytes ++ bytesOf16 (crc16 bytes)) = 0#16)

/-- A command shifted through the management port is the command meant, and what it returns is shifted out (R162, R163, R165, R182).  The transfer of
every well-formed command decodes to it, and one cut short inside its parameters is FRAMING with its code byte; that an undefined operation of LINK
CONTROL stands at the disable row is log entry 14.  Between a fall and a rise of CS#, in either SPI mode, the bits of its bytes, most significant
first, put it behind the waiting commands and change nothing else; a command with data-out joins them at its last rising edge, with the transfer open.
SDO changes at falling edges of SCK alone: low at the fall of CS# and until the command has taken effect, then the data-out's bits, most significant
first, and 00h after the last byte.  With CS# high or RESET# low it is released and SCK is ignored.  What of this is the model's: the fields of the transfer
and the data-out in course are its own (log entry 16), and that a command with data-out joins the waiting commands at its last rising edge and has run
before SDO shifts the data-out that State holds is log entry 25 (DEDUCED). -/
def Obligations.TransferRoundTrip : Prop :=
  (∀ (i : Instr) (bytes : List Byte), i.wellFormed = true → transferBytes i = some bytes →
    decodeTransfer bytes false = some i) ∧
  (∀ (i : Instr) (code : Byte) (params cut : List Byte), (∀ c, i ≠ .unknown c) → transferBytes i = some (code :: params) →
    cut <+: params → cut ≠ params → ∀ inside, decodeTransfer (code :: cut) inside = some (.framing (some code))) ∧
  (∀ (i : Instr) (bytes : List Byte) (mode0 : Bool) (s : State),
    i.wellFormed = true → transferBytes i = some bytes → s.resetLow = false → s.spi = .closed →
    csRise ((bytes.flatMap fun b => ([7, 6, 5, 4, 3, 2, 1, 0] : List Nat).map fun k => b.getLsbD k).foldl
      (fun t x => if mode0 then sckFall (sckRise x t) else sckRise x (sckFall t)) (csFall s)) =
        { s with pending := s.pending ++ [i] }) ∧
  (∀ (i : Instr) (code : Byte) (params : List Byte) (n : Nat) (s : State),
    i.wellFormed = true → transferBytes i = some (code :: params) → commandShape code = some (params.length, n) → n ≠ 0 →
    s.resetLow = false → s.spi = .closed →
    ((code :: params).flatMap fun b => ([7, 6, 5, 4, 3, 2, 1, 0] : List Nat).map fun k => b.getLsbD k).foldl
      (fun t x => sckRise x (sckFall t)) (csFall s) =
        { s with
          spi := .shifting { bytes := code :: params, bits := [], taken := true, clocked := true, sdo := false }
          pending := s.pending ++ [i] }) ∧
  (∀ (code : Byte) (params : List Byte) (n : Nat) (x : Transfer) (ins : List Bool) (s : State),
    commandShape code = some (params.length, n) → s.resetLow = false → s.spi = .shifting x → x.bytes = code :: params →
    x.bits = [] → x.taken = true →
    sdo (sckFall (ins.foldl (fun t b => sckRise b (sckFall t)) s)) =
      some ((s.dataOut.getD (ins.length / 8) 0#8).getLsbD (7 - ins.length % 8))) ∧
  (∀ (b : Bool) (x : Transfer) (s : State), s.resetLow = false → s.spi = .shifting x →
    sdo s = some x.sdo ∧ sdo (sckRise b s) = sdo s ∧ (x.taken = false → sdo (sckFall s) = some false)) ∧
  (∀ (b : Bool) (s : State), s.resetLow = true ∨ s.spi = .closed → sdo s = none ∧ sckRise b s = s ∧ sckFall s = s) ∧
  (∀ s : State, s.resetLow = false → s.spi = .closed → sdo (csFall s) = some false) ∧
  (∀ (code : Byte) (r : Result) (slot : SlotId) (data : List Byte) (x : Transfer) (s : State), s.spi = .shifting x →
    (answer code r slot data s).spi = .shifting x ∧ (answer code r slot data s).dataOut = data)

/-- A frame on the line reaches the receiver as its event (R178, R50): the symbols of a valid frame, at a receiver that is not OFFLINE and has no body
open, put the frame's event behind the waiting commands and change nothing else; in OFFLINE they change nothing. -/
def Obligations.LineReceiver : Prop :=
  ∀ (f : Frame) (s : State), (∀ q r, f = .record q r → r.valid = true) → s.resetLow = false → s.link.rxBody = none →
    (s.link.state ≠ .offline →
      (frameSymbols f).foldl (fun t x => receiveSymbol x t) s = { s with pending := s.pending ++ [f.received] }) ∧
    (s.link.state = .offline → (frameSymbols f).foldl (fun t x => receiveSymbol x t) s = s)

/-! ## Invariants -/

/-- The state after RESET#, released, passes every check of Safety.lean. -/
def Obligations.ResetIsSafe : Prop := safe State.reset = true

/-- R22, R26: the journal holds at most 64 entries, and entries only on the active side of an association; every step keeps this, with the resync
engine's first-read request made only while the engine may run (R113, R114). -/
def Obligations.JournalStaysHome : Prop :=
  ∀ s t : State, journalFits s = true → journalHome s = true → requestFits s = true → step s = .next t →
    journalFits t = true ∧ journalHome t = true ∧ requestFits t = true

/-- R25, R68: the SENT entries stand first, with consecutive sequences from A, S = A + k for k of them in an association, and at most 32; every step
keeps this, with the journal at home, the first-read request in place, the roles and link states that go together, and the parameters in range. -/
def Obligations.SentEntriesStayInOrder : Prop :=
  ∀ s t : State,
    journalOrdered s = true → journalHome s = true → requestFits s = true → linkFitsRole s = true → paramsInRange s = true →
    step s = .next t →
    journalOrdered t = true ∧ journalHome t = true ∧ requestFits t = true ∧ linkFitsRole t = true ∧ paramsInRange t = true

/-- R91, R100: the apply queue holds at most 16 records, R − P of them, with consecutive TSEQ from P, only in STANDBY and PROMOTING, and the hold
state agrees with its occupancy; every step keeps this, with the roles and link states that go together. -/
def Obligations.ApplyQueueStaysSound : Prop :=
  ∀ s t : State, queueSound s = true → holdFits s = true → linkFitsRole s = true → step s = .next t →
    queueSound t = true ∧ holdFits t = true ∧ linkFitsRole t = true

/-- R108, R112: a map is non-empty only for a MIRROR window on the active side, and the resync engine is IDLE outside ACTIVE, its walk in a MIRROR
window; every step keeps this. -/
def Obligations.TracksStayHome : Prop :=
  ∀ s t : State, mapsHome s = true → resyncHome s = true → step s = .next t →
    mapsHome t = true ∧ resyncHome t = true

/-- R11, R52, R151, R154: the upstream access is IN_PROGRESS exactly while the port carries it, the stall limit timer runs exactly while a write is held
with reason STALL, and the rejoin delay exactly while R52's conditions hold; every step keeps this. -/
def Obligations.PortAndTimersStayMatched : Prop :=
  ∀ s t : State, portMatches s = true → stallMatches s = true → rejoinMatches s = true → step s = .next t →
    portMatches t = true ∧ stallMatches t = true ∧ rejoinMatches t = true

/-- Every step keeps the memory in its canonical form: addresses of the 16 MiB space strictly rising, and no entry equal to what an unlisted address
reads as.  The manual gives the address space (R150); the list, and the byte an unlisted address reads as, are the model's own (log entry 2). -/
def Obligations.MemoryStaysCanonical : Prop :=
  ∀ s t : State, memoryCanonical s = true → step s = .next t → memoryCanonical t = true
end

