-- ==== Sys2Proof/Laws/Memory.lean ====
section
/-! SUPPORT. The laws of the retentive memory: a byte written is the byte read, every other byte stays, and every memory operation
keeps the canonical form. -/

namespace Sys2Proof.Machine

open Sys2Proof

/-! ## The canonical form -/

theorem Memory.wfFrom_cons (low : Nat) (c : Host.Cell) (m : List Host.Cell) :
    Memory.wfFrom low (c :: m) = true ↔
      (low ≤ c.1 ∧ c.1 < 2 ^ 24 ∧ c.2 ≠ Config.unwrittenByte) ∧ Memory.wfFrom (c.1 + 1) m = true := by
  simp [Memory.wfFrom, and_assoc]

theorem Memory.wfFrom_mono {m : List Host.Cell} {low low' : Nat} (hl : low' ≤ low) (h : Memory.wfFrom low m = true) :
    Memory.wfFrom low' m = true := by
  cases m with
  | nil => rfl
  | cons c rest =>
    rw [Memory.wfFrom_cons] at h ⊢
    exact ⟨⟨by omega, h.1.2⟩, h.2⟩

/-- A canonical list that starts above a key does not list the key. -/
theorem Cells.get_of_low {m : List Host.Cell} {low k : Nat} (h : Memory.wfFrom low m = true) (hk : k < low) :
    Cells.get k m = none := by
  induction m generalizing low with
  | nil => rfl
  | cons c rest ih =>
    rw [Memory.wfFrom_cons] at h
    rw [Cells.get, if_neg (by omega)]
    exact ih h.2 (by omega)

/-! ## The three list operations -/

/-- What a set key reads as, and every other key. -/
theorem Cells.get_put (k : Nat) (v : Byte) (m : List (Nat × Byte)) (x : Nat) :
    Cells.get x (Cells.put k v m) = if x = k then some v else Cells.get x m := by
  induction m with
  | nil => simp [Cells.put, Cells.get, eq_comm]
  | cons c rest ih =>
    simp only [Cells.put]
    split
    · simp [Cells.get, eq_comm]
    · split
      · subst_vars; by_cases hx : x = c.1 <;> simp [Cells.get, hx, eq_comm]
      · by_cases hx : c.1 = x
        · subst hx; simp [Cells.get, Ne.symm (by assumption : ¬k = c.1)]
        · simp [Cells.get, hx, ih]

/-- A canonical list after a key is set to a byte that may be listed. -/
theorem Cells.wfFrom_put {m : List Host.Cell} {low k : Nat} {v : Byte} (h : Memory.wfFrom low m = true) (hl : low ≤ k)
    (hk : k < 2 ^ 24) (hv : v ≠ Config.unwrittenByte) : Memory.wfFrom low (Cells.put k v m) = true := by
  induction m generalizing low with
  | nil =>
    rw [Cells.put, Memory.wfFrom_cons]
    exact ⟨⟨hl, hk, hv⟩, rfl⟩
  | cons c rest ih =>
    have hc := (Memory.wfFrom_cons low c rest).mp h
    simp only [Cells.put]
    split
    · rw [Memory.wfFrom_cons, Memory.wfFrom_cons]
      exact ⟨⟨hl, hk, hv⟩, ⟨by simpa using ‹k < c.1›, hc.1.2⟩, hc.2⟩
    · split
      · rw [Memory.wfFrom_cons]
        refine ⟨⟨hl, hk, hv⟩, ?_⟩
        simpa [‹k = c.1›] using hc.2
      · rw [Memory.wfFrom_cons]
        exact ⟨hc.1, ih hc.2 (by omega)⟩

/-- A canonical list after a key is removed. -/
theorem Cells.wfFrom_erase {m : List Host.Cell} {low : Nat} (k : Nat) (h : Memory.wfFrom low m = true) :
    Memory.wfFrom low (Cells.erase k m) = true := by
  induction m generalizing low with
  | nil => exact h
  | cons c rest ih =>
    have hc := (Memory.wfFrom_cons low c rest).mp h
    simp only [Cells.erase]
    split
    · exact Memory.wfFrom_mono (by omega) hc.2
    · rw [Memory.wfFrom_cons]
      exact ⟨hc.1, ih hc.2⟩

/-- What a removed key of a canonical list reads as, and every other key. -/
theorem Cells.get_erase {m : List Host.Cell} {low : Nat} (k x : Nat) (h : Memory.wfFrom low m = true) :
    Cells.get x (Cells.erase k m) = if x = k then none else Cells.get x m := by
  induction m generalizing low with
  | nil => simp [Cells.erase, Cells.get]
  | cons c rest ih =>
    have hc := (Memory.wfFrom_cons low c rest).mp h
    simp only [Cells.erase]
    split
    · rename_i hck
      subst hck
      by_cases hx : x = c.1
      · subst hx; simpa using Cells.get_of_low hc.2 (Nat.lt_succ_self _)
      · simp [Cells.get, hx, Ne.symm hx]
    · by_cases hcx : c.1 = x
      · subst hcx; simp [Cells.get, ‹¬c.1 = k›]
      · simp [Cells.get, hcx, ih hc.2]

/-! ## Bytes -/

/-- A byte written is the byte read, and every other byte stays (R150). -/
theorem Memory.read_write {m : List Host.Cell} (h : Memory.wf m = true) (a : Nat) (b : Byte) (x : Nat) :
    Memory.read (Memory.write m a b) x = if x = a then b else Memory.read m x := by
  simp only [Memory.read, Memory.write]
  split
  · rw [Cells.get_erase a x h]
    split <;> simp [*]
  · rw [Cells.get_put]
    split <;> simp [*]

/-- A byte write keeps the canonical form. -/
theorem Memory.wf_write {m : List Host.Cell} (h : Memory.wf m = true) {a : Nat} (ha : a < 2 ^ 24) (b : Byte) :
    Memory.wf (Memory.write m a b) = true := by
  simp only [Memory.write]
  split
  · exact Cells.wfFrom_erase a h
  · exact Cells.wfFrom_put h (Nat.zero_le _) ha ‹_›

/-! ## Words -/

theorem wordByteAddr_lt (a : WordAddr) (i : Fin 4) : wordByteAddr a + i.val < 2 ^ 24 := by
  have := a.isLt; have := i.isLt; simp only [wordByteAddr]; omega

/-- A word write under a lane mask, one lane at a time. -/
theorem Memory.writeWord_eq (m : List Host.Cell) (a : WordAddr) (lanes : Lanes) (data : WordData) :
    Memory.writeWord m a lanes data =
      (let put (i : Fin 4) (m : List Host.Cell) :=
        if lanes.getLsbD i.val then Memory.write m (wordByteAddr a + i.val) data[i] else m
       put 3 (put 2 (put 1 (put 0 m)))) := rfl

/-- One lane of a word write keeps the canonical form. -/
theorem Memory.wf_lane {m : List Host.Cell} (h : Memory.wf m = true) (a : WordAddr) (lanes : Lanes) (data : WordData)
    (i : Fin 4) :
    Memory.wf (if lanes.getLsbD i.val then Memory.write m (wordByteAddr a + i.val) data[i] else m) = true := by
  split
  · exact Memory.wf_write h (wordByteAddr_lt a i) _
  · exact h

/-- A word write keeps the canonical form. -/
theorem Memory.wf_writeWord {m : List Host.Cell} (h : Memory.wf m = true) (a : WordAddr) (lanes : Lanes) (data : WordData) :
    Memory.wf (Memory.writeWord m a lanes data) = true := by
  have one (i : Fin 4) {m : List Host.Cell} (h : Memory.wf m = true) := Memory.wf_lane h a lanes data i
  rw [Memory.writeWord_eq]
  exact one 3 (one 2 (one 1 (one 0 h)))

/-- A lane's byte after a word write: the written byte where the lane mask has the lane, else the byte before (R150). -/
theorem Memory.read_lane_writeWord {m : List Host.Cell} (h : Memory.wf m = true) (a : WordAddr) (lanes : Lanes)
    (data : WordData) (j : Fin 4) :
    Memory.read (Memory.writeWord m a lanes data) (wordByteAddr a + j.val) =
      if lanes.getLsbD j.val then data[j] else Memory.read m (wordByteAddr a + j.val) := by
  have wf (i : Fin 4) {m : List Host.Cell} (h : Memory.wf m = true) := Memory.wf_lane h a lanes data i
  have get (i : Fin 4) {m : List Host.Cell} (h : Memory.wf m = true) :
      Memory.read (if lanes.getLsbD i.val then Memory.write m (wordByteAddr a + i.val) data[i] else m)
          (wordByteAddr a + j.val) =
        if j = i then (if lanes.getLsbD i.val then data[i] else Memory.read m (wordByteAddr a + j.val))
        else Memory.read m (wordByteAddr a + j.val) := by
    split
    · rw [Memory.read_write h]
      by_cases hj : j = i
      · simp [hj]
      · have : j.val ≠ i.val := fun hv => hj (Fin.ext hv)
        simp [hj, this]
    · split <;> rfl
  rw [Memory.writeWord_eq]
  simp only [get 3 (wf 2 (wf 1 (wf 0 h))), get 2 (wf 1 (wf 0 h)), get 1 (wf 0 h), get 0 h]
  fin_cases j <;> rfl

/-- A byte outside the written word stays (R150). -/
theorem Memory.read_other_writeWord {m : List Host.Cell} (h : Memory.wf m = true) (a : WordAddr) (lanes : Lanes)
    (data : WordData) {k : Nat} (hk : k / 4 ≠ a.toNat) :
    Memory.read (Memory.writeWord m a lanes data) k = Memory.read m k := by
  have wf (i : Fin 4) {m : List Host.Cell} (h : Memory.wf m = true) := Memory.wf_lane h a lanes data i
  have get (i : Fin 4) {m : List Host.Cell} (h : Memory.wf m = true) :
      Memory.read (if lanes.getLsbD i.val then Memory.write m (wordByteAddr a + i.val) data[i] else m) k = Memory.read m k := by
    split
    · rw [Memory.read_write h, if_neg]
      have := i.isLt; simp only [wordByteAddr]; omega
    · rfl
  rw [Memory.writeWord_eq]
  simp only [get 3 (wf 2 (wf 1 (wf 0 h))), get 2 (wf 1 (wf 0 h)), get 1 (wf 0 h), get 0 h]

/-! ## The memory of the part -/

/-- What a completed access leaves keeps the canonical form (R153). -/
theorem wf_memoryAfter {s : State} (h : Memory.wf s.mem = true) (a : Access) : Memory.wf (memoryAfter s a) = true := by
  simp only [memoryAfter]
  split
  · exact h
  · exact Memory.wf_writeWord h _ _ _

/-- What RESET# leaves keeps the canonical form (R161). -/
theorem wf_memoryAfterAbandon {s : State} (h : Memory.wf s.mem = true) : Memory.wf (memoryAfterAbandon s) = true := by
  simp only [memoryAfterAbandon]
  repeat' split
  all_goals first | exact h | exact wf_memoryAfter h _

/-- The memory of the state after RESET# has the canonical form. -/
theorem wf_mem_reset : Memory.wf State.reset.mem = true := rfl

end Sys2Proof.Machine
end

