-- ==== Sys2Proof/Laws/State.lean ====
section
/-! SUPPORT. One lemma per field that a shared update of State leaves as it was, so that no later proof unfolds a record update, the
fields it writes, and one frame lemma for each shared operation that branches. -/

namespace Sys2Proof.Machine

open Sys2Proof

/-! ## A cause set (R167): `setCause` -/

@[simp] theorem setCause_windows (c : Cause) (s : State) : (setCause c s).windows = s.windows := rfl
@[simp] theorem setCause_upstream (c : Cause) (s : State) : (setCause c s).upstream = s.upstream := rfl
@[simp] theorem setCause_ending (c : Cause) (s : State) : (setCause c s).ending = s.ending := rfl
@[simp] theorem setCause_stallTimer (c : Cause) (s : State) : (setCause c s).stallTimer = s.stallTimer := rfl
@[simp] theorem setCause_journal (c : Cause) (s : State) : (setCause c s).journal = s.journal := rfl
@[simp] theorem setCause_link (c : Cause) (s : State) : (setCause c s).link = s.link := rfl
@[simp] theorem setCause_standby (c : Cause) (s : State) : (setCause c s).standby = s.standby := rfl
@[simp] theorem setCause_maps (c : Cause) (s : State) : (setCause c s).maps = s.maps := rfl
@[simp] theorem setCause_resync (c : Cause) (s : State) : (setCause c s).resync = s.resync := rfl
@[simp] theorem setCause_role (c : Cause) (s : State) : (setCause c s).role = s.role := rfl
@[simp] theorem setCause_handoverTimer (c : Cause) (s : State) : (setCause c s).handoverTimer = s.handoverTimer := rfl
@[simp] theorem setCause_keptSwap (c : Cause) (s : State) : (setCause c s).keptSwap = s.keptSwap := rfl
@[simp] theorem setCause_slots (c : Cause) (s : State) : (setCause c s).slots = s.slots := rfl
@[simp] theorem setCause_port (c : Cause) (s : State) : (setCause c s).port = s.port := rfl
@[simp] theorem setCause_upstreamRun (c : Cause) (s : State) : (setCause c s).upstreamRun = s.upstreamRun := rfl
@[simp] theorem setCause_mem (c : Cause) (s : State) : (setCause c s).mem = s.mem := rfl
@[simp] theorem setCause_mask (c : Cause) (s : State) : (setCause c s).mask = s.mask := rfl
@[simp] theorem setCause_lastResult (c : Cause) (s : State) : (setCause c s).lastResult = s.lastResult := rfl
@[simp] theorem setCause_dataOut (c : Cause) (s : State) : (setCause c s).dataOut = s.dataOut := rfl
@[simp] theorem setCause_spi (c : Cause) (s : State) : (setCause c s).spi = s.spi := rfl
@[simp] theorem setCause_resetLow (c : Cause) (s : State) : (setCause c s).resetLow = s.resetLow := rfl
@[simp] theorem setCause_linkParams (c : Cause) (s : State) : (setCause c s).linkParams = s.linkParams := rfl
@[simp] theorem setCause_pathParams (c : Cause) (s : State) : (setCause c s).pathParams = s.pathParams := rfl
@[simp] theorem setCause_windowStats (c : Cause) (s : State) : (setCause c s).windowStats = s.windowStats := rfl
@[simp] theorem setCause_linkStats (c : Cause) (s : State) : (setCause c s).linkStats = s.linkStats := rfl
@[simp] theorem setCause_freeCount (c : Cause) (s : State) : (setCause c s).freeCount = s.freeCount := rfl
@[simp] theorem setCause_pending (c : Cause) (s : State) : (setCause c s).pending = s.pending := rfl

/-! ## A window's counters written (R174): `withWindowStats` -/

@[simp] theorem withWindowStats_windows (w : WindowId) (x : WindowStats) (s : State) : (withWindowStats w x s).windows = s.windows := rfl
@[simp] theorem withWindowStats_upstream (w : WindowId) (x : WindowStats) (s : State) : (withWindowStats w x s).upstream = s.upstream := rfl
@[simp] theorem withWindowStats_ending (w : WindowId) (x : WindowStats) (s : State) : (withWindowStats w x s).ending = s.ending := rfl
@[simp] theorem withWindowStats_stallTimer (w : WindowId) (x : WindowStats) (s : State) : (withWindowStats w x s).stallTimer = s.stallTimer := rfl
@[simp] theorem withWindowStats_journal (w : WindowId) (x : WindowStats) (s : State) : (withWindowStats w x s).journal = s.journal := rfl
@[simp] theorem withWindowStats_link (w : WindowId) (x : WindowStats) (s : State) : (withWindowStats w x s).link = s.link := rfl
@[simp] theorem withWindowStats_standby (w : WindowId) (x : WindowStats) (s : State) : (withWindowStats w x s).standby = s.standby := rfl
@[simp] theorem withWindowStats_maps (w : WindowId) (x : WindowStats) (s : State) : (withWindowStats w x s).maps = s.maps := rfl
@[simp] theorem withWindowStats_resync (w : WindowId) (x : WindowStats) (s : State) : (withWindowStats w x s).resync = s.resync := rfl
@[simp] theorem withWindowStats_role (w : WindowId) (x : WindowStats) (s : State) : (withWindowStats w x s).role = s.role := rfl
@[simp] theorem withWindowStats_handoverTimer (w : WindowId) (x : WindowStats) (s : State) : (withWindowStats w x s).handoverTimer = s.handoverTimer := rfl
@[simp] theorem withWindowStats_keptSwap (w : WindowId) (x : WindowStats) (s : State) : (withWindowStats w x s).keptSwap = s.keptSwap := rfl
@[simp] theorem withWindowStats_slots (w : WindowId) (x : WindowStats) (s : State) : (withWindowStats w x s).slots = s.slots := rfl
@[simp] theorem withWindowStats_port (w : WindowId) (x : WindowStats) (s : State) : (withWindowStats w x s).port = s.port := rfl
@[simp] theorem withWindowStats_upstreamRun (w : WindowId) (x : WindowStats) (s : State) : (withWindowStats w x s).upstreamRun = s.upstreamRun := rfl
@[simp] theorem withWindowStats_mem (w : WindowId) (x : WindowStats) (s : State) : (withWindowStats w x s).mem = s.mem := rfl
@[simp] theorem withWindowStats_causes (w : WindowId) (x : WindowStats) (s : State) : (withWindowStats w x s).causes = s.causes := rfl
@[simp] theorem withWindowStats_mask (w : WindowId) (x : WindowStats) (s : State) : (withWindowStats w x s).mask = s.mask := rfl
@[simp] theorem withWindowStats_lastResult (w : WindowId) (x : WindowStats) (s : State) : (withWindowStats w x s).lastResult = s.lastResult := rfl
@[simp] theorem withWindowStats_dataOut (w : WindowId) (x : WindowStats) (s : State) : (withWindowStats w x s).dataOut = s.dataOut := rfl
@[simp] theorem withWindowStats_spi (w : WindowId) (x : WindowStats) (s : State) : (withWindowStats w x s).spi = s.spi := rfl
@[simp] theorem withWindowStats_resetLow (w : WindowId) (x : WindowStats) (s : State) : (withWindowStats w x s).resetLow = s.resetLow := rfl
@[simp] theorem withWindowStats_linkParams (w : WindowId) (x : WindowStats) (s : State) : (withWindowStats w x s).linkParams = s.linkParams := rfl
@[simp] theorem withWindowStats_pathParams (w : WindowId) (x : WindowStats) (s : State) : (withWindowStats w x s).pathParams = s.pathParams := rfl
@[simp] theorem withWindowStats_linkStats (w : WindowId) (x : WindowStats) (s : State) : (withWindowStats w x s).linkStats = s.linkStats := rfl
@[simp] theorem withWindowStats_freeCount (w : WindowId) (x : WindowStats) (s : State) : (withWindowStats w x s).freeCount = s.freeCount := rfl
@[simp] theorem withWindowStats_pending (w : WindowId) (x : WindowStats) (s : State) : (withWindowStats w x s).pending = s.pending := rfl

/-! ## An entry appended (R22): `appendEntry` -/

@[simp] theorem appendEntry_windows (e : Entry) (s : State) : (appendEntry e s).windows = s.windows := rfl
@[simp] theorem appendEntry_upstream (e : Entry) (s : State) : (appendEntry e s).upstream = s.upstream := rfl
@[simp] theorem appendEntry_ending (e : Entry) (s : State) : (appendEntry e s).ending = s.ending := rfl
@[simp] theorem appendEntry_stallTimer (e : Entry) (s : State) : (appendEntry e s).stallTimer = s.stallTimer := rfl
@[simp] theorem appendEntry_link (e : Entry) (s : State) : (appendEntry e s).link = s.link := rfl
@[simp] theorem appendEntry_standby (e : Entry) (s : State) : (appendEntry e s).standby = s.standby := rfl
@[simp] theorem appendEntry_maps (e : Entry) (s : State) : (appendEntry e s).maps = s.maps := rfl
@[simp] theorem appendEntry_resync (e : Entry) (s : State) : (appendEntry e s).resync = s.resync := rfl
@[simp] theorem appendEntry_role (e : Entry) (s : State) : (appendEntry e s).role = s.role := rfl
@[simp] theorem appendEntry_handoverTimer (e : Entry) (s : State) : (appendEntry e s).handoverTimer = s.handoverTimer := rfl
@[simp] theorem appendEntry_keptSwap (e : Entry) (s : State) : (appendEntry e s).keptSwap = s.keptSwap := rfl
@[simp] theorem appendEntry_slots (e : Entry) (s : State) : (appendEntry e s).slots = s.slots := rfl
@[simp] theorem appendEntry_port (e : Entry) (s : State) : (appendEntry e s).port = s.port := rfl
@[simp] theorem appendEntry_upstreamRun (e : Entry) (s : State) : (appendEntry e s).upstreamRun = s.upstreamRun := rfl
@[simp] theorem appendEntry_mem (e : Entry) (s : State) : (appendEntry e s).mem = s.mem := rfl
@[simp] theorem appendEntry_causes (e : Entry) (s : State) : (appendEntry e s).causes = s.causes := rfl
@[simp] theorem appendEntry_mask (e : Entry) (s : State) : (appendEntry e s).mask = s.mask := rfl
@[simp] theorem appendEntry_lastResult (e : Entry) (s : State) : (appendEntry e s).lastResult = s.lastResult := rfl
@[simp] theorem appendEntry_dataOut (e : Entry) (s : State) : (appendEntry e s).dataOut = s.dataOut := rfl
@[simp] theorem appendEntry_spi (e : Entry) (s : State) : (appendEntry e s).spi = s.spi := rfl
@[simp] theorem appendEntry_resetLow (e : Entry) (s : State) : (appendEntry e s).resetLow = s.resetLow := rfl
@[simp] theorem appendEntry_linkParams (e : Entry) (s : State) : (appendEntry e s).linkParams = s.linkParams := rfl
@[simp] theorem appendEntry_pathParams (e : Entry) (s : State) : (appendEntry e s).pathParams = s.pathParams := rfl
@[simp] theorem appendEntry_windowStats (e : Entry) (s : State) : (appendEntry e s).windowStats = s.windowStats := rfl
@[simp] theorem appendEntry_linkStats (e : Entry) (s : State) : (appendEntry e s).linkStats = s.linkStats := rfl
@[simp] theorem appendEntry_freeCount (e : Entry) (s : State) : (appendEntry e s).freeCount = s.freeCount := rfl
@[simp] theorem appendEntry_pending (e : Entry) (s : State) : (appendEntry e s).pending = s.pending := rfl

/-! ## An access ended with FAULT (R10): `endWithFault` -/

@[simp] theorem endWithFault_windows (s : State) : (endWithFault s).windows = s.windows := rfl
@[simp] theorem endWithFault_stallTimer (s : State) : (endWithFault s).stallTimer = s.stallTimer := rfl
@[simp] theorem endWithFault_journal (s : State) : (endWithFault s).journal = s.journal := rfl
@[simp] theorem endWithFault_link (s : State) : (endWithFault s).link = s.link := rfl
@[simp] theorem endWithFault_standby (s : State) : (endWithFault s).standby = s.standby := rfl
@[simp] theorem endWithFault_maps (s : State) : (endWithFault s).maps = s.maps := rfl
@[simp] theorem endWithFault_resync (s : State) : (endWithFault s).resync = s.resync := rfl
@[simp] theorem endWithFault_role (s : State) : (endWithFault s).role = s.role := rfl
@[simp] theorem endWithFault_handoverTimer (s : State) : (endWithFault s).handoverTimer = s.handoverTimer := rfl
@[simp] theorem endWithFault_keptSwap (s : State) : (endWithFault s).keptSwap = s.keptSwap := rfl
@[simp] theorem endWithFault_slots (s : State) : (endWithFault s).slots = s.slots := rfl
@[simp] theorem endWithFault_port (s : State) : (endWithFault s).port = s.port := rfl
@[simp] theorem endWithFault_upstreamRun (s : State) : (endWithFault s).upstreamRun = s.upstreamRun := rfl
@[simp] theorem endWithFault_mem (s : State) : (endWithFault s).mem = s.mem := rfl
@[simp] theorem endWithFault_causes (s : State) : (endWithFault s).causes = s.causes := rfl
@[simp] theorem endWithFault_mask (s : State) : (endWithFault s).mask = s.mask := rfl
@[simp] theorem endWithFault_lastResult (s : State) : (endWithFault s).lastResult = s.lastResult := rfl
@[simp] theorem endWithFault_dataOut (s : State) : (endWithFault s).dataOut = s.dataOut := rfl
@[simp] theorem endWithFault_spi (s : State) : (endWithFault s).spi = s.spi := rfl
@[simp] theorem endWithFault_resetLow (s : State) : (endWithFault s).resetLow = s.resetLow := rfl
@[simp] theorem endWithFault_linkParams (s : State) : (endWithFault s).linkParams = s.linkParams := rfl
@[simp] theorem endWithFault_pathParams (s : State) : (endWithFault s).pathParams = s.pathParams := rfl
@[simp] theorem endWithFault_windowStats (s : State) : (endWithFault s).windowStats = s.windowStats := rfl
@[simp] theorem endWithFault_linkStats (s : State) : (endWithFault s).linkStats = s.linkStats := rfl
@[simp] theorem endWithFault_freeCount (s : State) : (endWithFault s).freeCount = s.freeCount := rfl
@[simp] theorem endWithFault_pending (s : State) : (endWithFault s).pending = s.pending := rfl

/-! ## The reply timer started (R75): `startReply` -/

@[simp] theorem startReply_windows (s : State) : (startReply s).windows = s.windows := rfl
@[simp] theorem startReply_upstream (s : State) : (startReply s).upstream = s.upstream := rfl
@[simp] theorem startReply_ending (s : State) : (startReply s).ending = s.ending := rfl
@[simp] theorem startReply_stallTimer (s : State) : (startReply s).stallTimer = s.stallTimer := rfl
@[simp] theorem startReply_journal (s : State) : (startReply s).journal = s.journal := rfl
@[simp] theorem startReply_standby (s : State) : (startReply s).standby = s.standby := rfl
@[simp] theorem startReply_maps (s : State) : (startReply s).maps = s.maps := rfl
@[simp] theorem startReply_resync (s : State) : (startReply s).resync = s.resync := rfl
@[simp] theorem startReply_role (s : State) : (startReply s).role = s.role := rfl
@[simp] theorem startReply_handoverTimer (s : State) : (startReply s).handoverTimer = s.handoverTimer := rfl
@[simp] theorem startReply_keptSwap (s : State) : (startReply s).keptSwap = s.keptSwap := rfl
@[simp] theorem startReply_slots (s : State) : (startReply s).slots = s.slots := rfl
@[simp] theorem startReply_port (s : State) : (startReply s).port = s.port := rfl
@[simp] theorem startReply_upstreamRun (s : State) : (startReply s).upstreamRun = s.upstreamRun := rfl
@[simp] theorem startReply_mem (s : State) : (startReply s).mem = s.mem := rfl
@[simp] theorem startReply_causes (s : State) : (startReply s).causes = s.causes := rfl
@[simp] theorem startReply_mask (s : State) : (startReply s).mask = s.mask := rfl
@[simp] theorem startReply_lastResult (s : State) : (startReply s).lastResult = s.lastResult := rfl
@[simp] theorem startReply_dataOut (s : State) : (startReply s).dataOut = s.dataOut := rfl
@[simp] theorem startReply_spi (s : State) : (startReply s).spi = s.spi := rfl
@[simp] theorem startReply_resetLow (s : State) : (startReply s).resetLow = s.resetLow := rfl
@[simp] theorem startReply_linkParams (s : State) : (startReply s).linkParams = s.linkParams := rfl
@[simp] theorem startReply_pathParams (s : State) : (startReply s).pathParams = s.pathParams := rfl
@[simp] theorem startReply_windowStats (s : State) : (startReply s).windowStats = s.windowStats := rfl
@[simp] theorem startReply_linkStats (s : State) : (startReply s).linkStats = s.linkStats := rfl
@[simp] theorem startReply_freeCount (s : State) : (startReply s).freeCount = s.freeCount := rfl
@[simp] theorem startReply_pending (s : State) : (startReply s).pending = s.pending := rfl

/-! ## The reply timer stopped (R75): `stopReply` -/

@[simp] theorem stopReply_windows (s : State) : (stopReply s).windows = s.windows := rfl
@[simp] theorem stopReply_upstream (s : State) : (stopReply s).upstream = s.upstream := rfl
@[simp] theorem stopReply_ending (s : State) : (stopReply s).ending = s.ending := rfl
@[simp] theorem stopReply_stallTimer (s : State) : (stopReply s).stallTimer = s.stallTimer := rfl
@[simp] theorem stopReply_journal (s : State) : (stopReply s).journal = s.journal := rfl
@[simp] theorem stopReply_standby (s : State) : (stopReply s).standby = s.standby := rfl
@[simp] theorem stopReply_maps (s : State) : (stopReply s).maps = s.maps := rfl
@[simp] theorem stopReply_resync (s : State) : (stopReply s).resync = s.resync := rfl
@[simp] theorem stopReply_role (s : State) : (stopReply s).role = s.role := rfl
@[simp] theorem stopReply_handoverTimer (s : State) : (stopReply s).handoverTimer = s.handoverTimer := rfl
@[simp] theorem stopReply_keptSwap (s : State) : (stopReply s).keptSwap = s.keptSwap := rfl
@[simp] theorem stopReply_slots (s : State) : (stopReply s).slots = s.slots := rfl
@[simp] theorem stopReply_port (s : State) : (stopReply s).port = s.port := rfl
@[simp] theorem stopReply_upstreamRun (s : State) : (stopReply s).upstreamRun = s.upstreamRun := rfl
@[simp] theorem stopReply_mem (s : State) : (stopReply s).mem = s.mem := rfl
@[simp] theorem stopReply_causes (s : State) : (stopReply s).causes = s.causes := rfl
@[simp] theorem stopReply_mask (s : State) : (stopReply s).mask = s.mask := rfl
@[simp] theorem stopReply_lastResult (s : State) : (stopReply s).lastResult = s.lastResult := rfl
@[simp] theorem stopReply_dataOut (s : State) : (stopReply s).dataOut = s.dataOut := rfl
@[simp] theorem stopReply_spi (s : State) : (stopReply s).spi = s.spi := rfl
@[simp] theorem stopReply_resetLow (s : State) : (stopReply s).resetLow = s.resetLow := rfl
@[simp] theorem stopReply_linkParams (s : State) : (stopReply s).linkParams = s.linkParams := rfl
@[simp] theorem stopReply_pathParams (s : State) : (stopReply s).pathParams = s.pathParams := rfl
@[simp] theorem stopReply_windowStats (s : State) : (stopReply s).windowStats = s.windowStats := rfl
@[simp] theorem stopReply_linkStats (s : State) : (stopReply s).linkStats = s.linkStats := rfl
@[simp] theorem stopReply_freeCount (s : State) : (stopReply s).freeCount = s.freeCount := rfl
@[simp] theorem stopReply_pending (s : State) : (stopReply s).pending = s.pending := rfl

/-! ## A track marked (R109): `markTrack` -/

@[simp] theorem markTrack_windows (w : WindowId) (t : Nat) (s : State) : (markTrack w t s).windows = s.windows := rfl
@[simp] theorem markTrack_upstream (w : WindowId) (t : Nat) (s : State) : (markTrack w t s).upstream = s.upstream := rfl
@[simp] theorem markTrack_ending (w : WindowId) (t : Nat) (s : State) : (markTrack w t s).ending = s.ending := rfl
@[simp] theorem markTrack_stallTimer (w : WindowId) (t : Nat) (s : State) : (markTrack w t s).stallTimer = s.stallTimer := rfl
@[simp] theorem markTrack_journal (w : WindowId) (t : Nat) (s : State) : (markTrack w t s).journal = s.journal := rfl
@[simp] theorem markTrack_link (w : WindowId) (t : Nat) (s : State) : (markTrack w t s).link = s.link := rfl
@[simp] theorem markTrack_standby (w : WindowId) (t : Nat) (s : State) : (markTrack w t s).standby = s.standby := rfl
@[simp] theorem markTrack_resync (w : WindowId) (t : Nat) (s : State) : (markTrack w t s).resync = s.resync := rfl
@[simp] theorem markTrack_role (w : WindowId) (t : Nat) (s : State) : (markTrack w t s).role = s.role := rfl
@[simp] theorem markTrack_handoverTimer (w : WindowId) (t : Nat) (s : State) : (markTrack w t s).handoverTimer = s.handoverTimer := rfl
@[simp] theorem markTrack_keptSwap (w : WindowId) (t : Nat) (s : State) : (markTrack w t s).keptSwap = s.keptSwap := rfl
@[simp] theorem markTrack_slots (w : WindowId) (t : Nat) (s : State) : (markTrack w t s).slots = s.slots := rfl
@[simp] theorem markTrack_port (w : WindowId) (t : Nat) (s : State) : (markTrack w t s).port = s.port := rfl
@[simp] theorem markTrack_upstreamRun (w : WindowId) (t : Nat) (s : State) : (markTrack w t s).upstreamRun = s.upstreamRun := rfl
@[simp] theorem markTrack_mem (w : WindowId) (t : Nat) (s : State) : (markTrack w t s).mem = s.mem := rfl
@[simp] theorem markTrack_causes (w : WindowId) (t : Nat) (s : State) : (markTrack w t s).causes = s.causes := rfl
@[simp] theorem markTrack_mask (w : WindowId) (t : Nat) (s : State) : (markTrack w t s).mask = s.mask := rfl
@[simp] theorem markTrack_lastResult (w : WindowId) (t : Nat) (s : State) : (markTrack w t s).lastResult = s.lastResult := rfl
@[simp] theorem markTrack_dataOut (w : WindowId) (t : Nat) (s : State) : (markTrack w t s).dataOut = s.dataOut := rfl
@[simp] theorem markTrack_spi (w : WindowId) (t : Nat) (s : State) : (markTrack w t s).spi = s.spi := rfl
@[simp] theorem markTrack_resetLow (w : WindowId) (t : Nat) (s : State) : (markTrack w t s).resetLow = s.resetLow := rfl
@[simp] theorem markTrack_linkParams (w : WindowId) (t : Nat) (s : State) : (markTrack w t s).linkParams = s.linkParams := rfl
@[simp] theorem markTrack_pathParams (w : WindowId) (t : Nat) (s : State) : (markTrack w t s).pathParams = s.pathParams := rfl
@[simp] theorem markTrack_windowStats (w : WindowId) (t : Nat) (s : State) : (markTrack w t s).windowStats = s.windowStats := rfl
@[simp] theorem markTrack_linkStats (w : WindowId) (t : Nat) (s : State) : (markTrack w t s).linkStats = s.linkStats := rfl
@[simp] theorem markTrack_freeCount (w : WindowId) (t : Nat) (s : State) : (markTrack w t s).freeCount = s.freeCount := rfl
@[simp] theorem markTrack_pending (w : WindowId) (t : Nat) (s : State) : (markTrack w t s).pending = s.pending := rfl

/-! ## A track cleared (R113): `clearTrack` -/

@[simp] theorem clearTrack_windows (w : WindowId) (t : Nat) (s : State) : (clearTrack w t s).windows = s.windows := rfl
@[simp] theorem clearTrack_upstream (w : WindowId) (t : Nat) (s : State) : (clearTrack w t s).upstream = s.upstream := rfl
@[simp] theorem clearTrack_ending (w : WindowId) (t : Nat) (s : State) : (clearTrack w t s).ending = s.ending := rfl
@[simp] theorem clearTrack_stallTimer (w : WindowId) (t : Nat) (s : State) : (clearTrack w t s).stallTimer = s.stallTimer := rfl
@[simp] theorem clearTrack_journal (w : WindowId) (t : Nat) (s : State) : (clearTrack w t s).journal = s.journal := rfl
@[simp] theorem clearTrack_link (w : WindowId) (t : Nat) (s : State) : (clearTrack w t s).link = s.link := rfl
@[simp] theorem clearTrack_standby (w : WindowId) (t : Nat) (s : State) : (clearTrack w t s).standby = s.standby := rfl
@[simp] theorem clearTrack_resync (w : WindowId) (t : Nat) (s : State) : (clearTrack w t s).resync = s.resync := rfl
@[simp] theorem clearTrack_role (w : WindowId) (t : Nat) (s : State) : (clearTrack w t s).role = s.role := rfl
@[simp] theorem clearTrack_handoverTimer (w : WindowId) (t : Nat) (s : State) : (clearTrack w t s).handoverTimer = s.handoverTimer := rfl
@[simp] theorem clearTrack_keptSwap (w : WindowId) (t : Nat) (s : State) : (clearTrack w t s).keptSwap = s.keptSwap := rfl
@[simp] theorem clearTrack_slots (w : WindowId) (t : Nat) (s : State) : (clearTrack w t s).slots = s.slots := rfl
@[simp] theorem clearTrack_port (w : WindowId) (t : Nat) (s : State) : (clearTrack w t s).port = s.port := rfl
@[simp] theorem clearTrack_upstreamRun (w : WindowId) (t : Nat) (s : State) : (clearTrack w t s).upstreamRun = s.upstreamRun := rfl
@[simp] theorem clearTrack_mem (w : WindowId) (t : Nat) (s : State) : (clearTrack w t s).mem = s.mem := rfl
@[simp] theorem clearTrack_causes (w : WindowId) (t : Nat) (s : State) : (clearTrack w t s).causes = s.causes := rfl
@[simp] theorem clearTrack_mask (w : WindowId) (t : Nat) (s : State) : (clearTrack w t s).mask = s.mask := rfl
@[simp] theorem clearTrack_lastResult (w : WindowId) (t : Nat) (s : State) : (clearTrack w t s).lastResult = s.lastResult := rfl
@[simp] theorem clearTrack_dataOut (w : WindowId) (t : Nat) (s : State) : (clearTrack w t s).dataOut = s.dataOut := rfl
@[simp] theorem clearTrack_spi (w : WindowId) (t : Nat) (s : State) : (clearTrack w t s).spi = s.spi := rfl
@[simp] theorem clearTrack_resetLow (w : WindowId) (t : Nat) (s : State) : (clearTrack w t s).resetLow = s.resetLow := rfl
@[simp] theorem clearTrack_linkParams (w : WindowId) (t : Nat) (s : State) : (clearTrack w t s).linkParams = s.linkParams := rfl
@[simp] theorem clearTrack_pathParams (w : WindowId) (t : Nat) (s : State) : (clearTrack w t s).pathParams = s.pathParams := rfl
@[simp] theorem clearTrack_windowStats (w : WindowId) (t : Nat) (s : State) : (clearTrack w t s).windowStats = s.windowStats := rfl
@[simp] theorem clearTrack_linkStats (w : WindowId) (t : Nat) (s : State) : (clearTrack w t s).linkStats = s.linkStats := rfl
@[simp] theorem clearTrack_freeCount (w : WindowId) (t : Nat) (s : State) : (clearTrack w t s).freeCount = s.freeCount := rfl
@[simp] theorem clearTrack_pending (w : WindowId) (t : Nat) (s : State) : (clearTrack w t s).pending = s.pending := rfl

/-! ## Every track cleared (R110): `clearMaps` -/

@[simp] theorem clearMaps_windows (s : State) : (clearMaps s).windows = s.windows := rfl
@[simp] theorem clearMaps_upstream (s : State) : (clearMaps s).upstream = s.upstream := rfl
@[simp] theorem clearMaps_ending (s : State) : (clearMaps s).ending = s.ending := rfl
@[simp] theorem clearMaps_stallTimer (s : State) : (clearMaps s).stallTimer = s.stallTimer := rfl
@[simp] theorem clearMaps_journal (s : State) : (clearMaps s).journal = s.journal := rfl
@[simp] theorem clearMaps_link (s : State) : (clearMaps s).link = s.link := rfl
@[simp] theorem clearMaps_standby (s : State) : (clearMaps s).standby = s.standby := rfl
@[simp] theorem clearMaps_resync (s : State) : (clearMaps s).resync = s.resync := rfl
@[simp] theorem clearMaps_role (s : State) : (clearMaps s).role = s.role := rfl
@[simp] theorem clearMaps_handoverTimer (s : State) : (clearMaps s).handoverTimer = s.handoverTimer := rfl
@[simp] theorem clearMaps_keptSwap (s : State) : (clearMaps s).keptSwap = s.keptSwap := rfl
@[simp] theorem clearMaps_slots (s : State) : (clearMaps s).slots = s.slots := rfl
@[simp] theorem clearMaps_port (s : State) : (clearMaps s).port = s.port := rfl
@[simp] theorem clearMaps_upstreamRun (s : State) : (clearMaps s).upstreamRun = s.upstreamRun := rfl
@[simp] theorem clearMaps_mem (s : State) : (clearMaps s).mem = s.mem := rfl
@[simp] theorem clearMaps_causes (s : State) : (clearMaps s).causes = s.causes := rfl
@[simp] theorem clearMaps_mask (s : State) : (clearMaps s).mask = s.mask := rfl
@[simp] theorem clearMaps_lastResult (s : State) : (clearMaps s).lastResult = s.lastResult := rfl
@[simp] theorem clearMaps_dataOut (s : State) : (clearMaps s).dataOut = s.dataOut := rfl
@[simp] theorem clearMaps_spi (s : State) : (clearMaps s).spi = s.spi := rfl
@[simp] theorem clearMaps_resetLow (s : State) : (clearMaps s).resetLow = s.resetLow := rfl
@[simp] theorem clearMaps_linkParams (s : State) : (clearMaps s).linkParams = s.linkParams := rfl
@[simp] theorem clearMaps_pathParams (s : State) : (clearMaps s).pathParams = s.pathParams := rfl
@[simp] theorem clearMaps_windowStats (s : State) : (clearMaps s).windowStats = s.windowStats := rfl
@[simp] theorem clearMaps_linkStats (s : State) : (clearMaps s).linkStats = s.linkStats := rfl
@[simp] theorem clearMaps_freeCount (s : State) : (clearMaps s).freeCount = s.freeCount := rfl
@[simp] theorem clearMaps_pending (s : State) : (clearMaps s).pending = s.pending := rfl

/-! ## Full marking (R111): `fullMarking` -/

@[simp] theorem fullMarking_windows (s : State) : (fullMarking s).windows = s.windows := rfl
@[simp] theorem fullMarking_upstream (s : State) : (fullMarking s).upstream = s.upstream := rfl
@[simp] theorem fullMarking_ending (s : State) : (fullMarking s).ending = s.ending := rfl
@[simp] theorem fullMarking_stallTimer (s : State) : (fullMarking s).stallTimer = s.stallTimer := rfl
@[simp] theorem fullMarking_journal (s : State) : (fullMarking s).journal = s.journal := rfl
@[simp] theorem fullMarking_link (s : State) : (fullMarking s).link = s.link := rfl
@[simp] theorem fullMarking_standby (s : State) : (fullMarking s).standby = s.standby := rfl
@[simp] theorem fullMarking_resync (s : State) : (fullMarking s).resync = s.resync := rfl
@[simp] theorem fullMarking_role (s : State) : (fullMarking s).role = s.role := rfl
@[simp] theorem fullMarking_handoverTimer (s : State) : (fullMarking s).handoverTimer = s.handoverTimer := rfl
@[simp] theorem fullMarking_keptSwap (s : State) : (fullMarking s).keptSwap = s.keptSwap := rfl
@[simp] theorem fullMarking_slots (s : State) : (fullMarking s).slots = s.slots := rfl
@[simp] theorem fullMarking_port (s : State) : (fullMarking s).port = s.port := rfl
@[simp] theorem fullMarking_upstreamRun (s : State) : (fullMarking s).upstreamRun = s.upstreamRun := rfl
@[simp] theorem fullMarking_mem (s : State) : (fullMarking s).mem = s.mem := rfl
@[simp] theorem fullMarking_causes (s : State) : (fullMarking s).causes = s.causes := rfl
@[simp] theorem fullMarking_mask (s : State) : (fullMarking s).mask = s.mask := rfl
@[simp] theorem fullMarking_lastResult (s : State) : (fullMarking s).lastResult = s.lastResult := rfl
@[simp] theorem fullMarking_dataOut (s : State) : (fullMarking s).dataOut = s.dataOut := rfl
@[simp] theorem fullMarking_spi (s : State) : (fullMarking s).spi = s.spi := rfl
@[simp] theorem fullMarking_resetLow (s : State) : (fullMarking s).resetLow = s.resetLow := rfl
@[simp] theorem fullMarking_linkParams (s : State) : (fullMarking s).linkParams = s.linkParams := rfl
@[simp] theorem fullMarking_pathParams (s : State) : (fullMarking s).pathParams = s.pathParams := rfl
@[simp] theorem fullMarking_windowStats (s : State) : (fullMarking s).windowStats = s.windowStats := rfl
@[simp] theorem fullMarking_linkStats (s : State) : (fullMarking s).linkStats = s.linkStats := rfl
@[simp] theorem fullMarking_freeCount (s : State) : (fullMarking s).freeCount = s.freeCount := rfl
@[simp] theorem fullMarking_pending (s : State) : (fullMarking s).pending = s.pending := rfl

/-! ## A word taken by the FILLING entry (R32): `takeWord` -/

@[simp] theorem takeWord_windows (word : WordData) (last : Bool) (s : State) : (takeWord word last s).windows = s.windows := rfl
@[simp] theorem takeWord_upstream (word : WordData) (last : Bool) (s : State) : (takeWord word last s).upstream = s.upstream := rfl
@[simp] theorem takeWord_ending (word : WordData) (last : Bool) (s : State) : (takeWord word last s).ending = s.ending := rfl
@[simp] theorem takeWord_stallTimer (word : WordData) (last : Bool) (s : State) : (takeWord word last s).stallTimer = s.stallTimer := rfl
@[simp] theorem takeWord_link (word : WordData) (last : Bool) (s : State) : (takeWord word last s).link = s.link := rfl
@[simp] theorem takeWord_standby (word : WordData) (last : Bool) (s : State) : (takeWord word last s).standby = s.standby := rfl
@[simp] theorem takeWord_maps (word : WordData) (last : Bool) (s : State) : (takeWord word last s).maps = s.maps := rfl
@[simp] theorem takeWord_resync (word : WordData) (last : Bool) (s : State) : (takeWord word last s).resync = s.resync := rfl
@[simp] theorem takeWord_role (word : WordData) (last : Bool) (s : State) : (takeWord word last s).role = s.role := rfl
@[simp] theorem takeWord_handoverTimer (word : WordData) (last : Bool) (s : State) : (takeWord word last s).handoverTimer = s.handoverTimer := rfl
@[simp] theorem takeWord_keptSwap (word : WordData) (last : Bool) (s : State) : (takeWord word last s).keptSwap = s.keptSwap := rfl
@[simp] theorem takeWord_slots (word : WordData) (last : Bool) (s : State) : (takeWord word last s).slots = s.slots := rfl
@[simp] theorem takeWord_port (word : WordData) (last : Bool) (s : State) : (takeWord word last s).port = s.port := rfl
@[simp] theorem takeWord_upstreamRun (word : WordData) (last : Bool) (s : State) : (takeWord word last s).upstreamRun = s.upstreamRun := rfl
@[simp] theorem takeWord_mem (word : WordData) (last : Bool) (s : State) : (takeWord word last s).mem = s.mem := rfl
@[simp] theorem takeWord_causes (word : WordData) (last : Bool) (s : State) : (takeWord word last s).causes = s.causes := rfl
@[simp] theorem takeWord_mask (word : WordData) (last : Bool) (s : State) : (takeWord word last s).mask = s.mask := rfl
@[simp] theorem takeWord_lastResult (word : WordData) (last : Bool) (s : State) : (takeWord word last s).lastResult = s.lastResult := rfl
@[simp] theorem takeWord_dataOut (word : WordData) (last : Bool) (s : State) : (takeWord word last s).dataOut = s.dataOut := rfl
@[simp] theorem takeWord_spi (word : WordData) (last : Bool) (s : State) : (takeWord word last s).spi = s.spi := rfl
@[simp] theorem takeWord_resetLow (word : WordData) (last : Bool) (s : State) : (takeWord word last s).resetLow = s.resetLow := rfl
@[simp] theorem takeWord_linkParams (word : WordData) (last : Bool) (s : State) : (takeWord word last s).linkParams = s.linkParams := rfl
@[simp] theorem takeWord_pathParams (word : WordData) (last : Bool) (s : State) : (takeWord word last s).pathParams = s.pathParams := rfl
@[simp] theorem takeWord_windowStats (word : WordData) (last : Bool) (s : State) : (takeWord word last s).windowStats = s.windowStats := rfl
@[simp] theorem takeWord_linkStats (word : WordData) (last : Bool) (s : State) : (takeWord word last s).linkStats = s.linkStats := rfl
@[simp] theorem takeWord_freeCount (word : WordData) (last : Bool) (s : State) : (takeWord word last s).freeCount = s.freeCount := rfl
@[simp] theorem takeWord_pending (word : WordData) (last : Bool) (s : State) : (takeWord word last s).pending = s.pending := rfl

/-! ## A slot decided (R144, R145): `decideSlot` -/

@[simp] theorem decideSlot_windows (i : SlotId) (x : SlotState) (s : State) : (decideSlot i x s).windows = s.windows := rfl
@[simp] theorem decideSlot_upstream (i : SlotId) (x : SlotState) (s : State) : (decideSlot i x s).upstream = s.upstream := rfl
@[simp] theorem decideSlot_ending (i : SlotId) (x : SlotState) (s : State) : (decideSlot i x s).ending = s.ending := rfl
@[simp] theorem decideSlot_stallTimer (i : SlotId) (x : SlotState) (s : State) : (decideSlot i x s).stallTimer = s.stallTimer := rfl
@[simp] theorem decideSlot_journal (i : SlotId) (x : SlotState) (s : State) : (decideSlot i x s).journal = s.journal := rfl
@[simp] theorem decideSlot_link (i : SlotId) (x : SlotState) (s : State) : (decideSlot i x s).link = s.link := rfl
@[simp] theorem decideSlot_standby (i : SlotId) (x : SlotState) (s : State) : (decideSlot i x s).standby = s.standby := rfl
@[simp] theorem decideSlot_maps (i : SlotId) (x : SlotState) (s : State) : (decideSlot i x s).maps = s.maps := rfl
@[simp] theorem decideSlot_resync (i : SlotId) (x : SlotState) (s : State) : (decideSlot i x s).resync = s.resync := rfl
@[simp] theorem decideSlot_role (i : SlotId) (x : SlotState) (s : State) : (decideSlot i x s).role = s.role := rfl
@[simp] theorem decideSlot_handoverTimer (i : SlotId) (x : SlotState) (s : State) : (decideSlot i x s).handoverTimer = s.handoverTimer := rfl
@[simp] theorem decideSlot_keptSwap (i : SlotId) (x : SlotState) (s : State) : (decideSlot i x s).keptSwap = s.keptSwap := rfl
@[simp] theorem decideSlot_port (i : SlotId) (x : SlotState) (s : State) : (decideSlot i x s).port = s.port := rfl
@[simp] theorem decideSlot_upstreamRun (i : SlotId) (x : SlotState) (s : State) : (decideSlot i x s).upstreamRun = s.upstreamRun := rfl
@[simp] theorem decideSlot_mem (i : SlotId) (x : SlotState) (s : State) : (decideSlot i x s).mem = s.mem := rfl
@[simp] theorem decideSlot_causes (i : SlotId) (x : SlotState) (s : State) : (decideSlot i x s).causes = s.causes := rfl
@[simp] theorem decideSlot_mask (i : SlotId) (x : SlotState) (s : State) : (decideSlot i x s).mask = s.mask := rfl
@[simp] theorem decideSlot_lastResult (i : SlotId) (x : SlotState) (s : State) : (decideSlot i x s).lastResult = s.lastResult := rfl
@[simp] theorem decideSlot_dataOut (i : SlotId) (x : SlotState) (s : State) : (decideSlot i x s).dataOut = s.dataOut := rfl
@[simp] theorem decideSlot_spi (i : SlotId) (x : SlotState) (s : State) : (decideSlot i x s).spi = s.spi := rfl
@[simp] theorem decideSlot_resetLow (i : SlotId) (x : SlotState) (s : State) : (decideSlot i x s).resetLow = s.resetLow := rfl
@[simp] theorem decideSlot_linkParams (i : SlotId) (x : SlotState) (s : State) : (decideSlot i x s).linkParams = s.linkParams := rfl
@[simp] theorem decideSlot_pathParams (i : SlotId) (x : SlotState) (s : State) : (decideSlot i x s).pathParams = s.pathParams := rfl
@[simp] theorem decideSlot_windowStats (i : SlotId) (x : SlotState) (s : State) : (decideSlot i x s).windowStats = s.windowStats := rfl
@[simp] theorem decideSlot_linkStats (i : SlotId) (x : SlotState) (s : State) : (decideSlot i x s).linkStats = s.linkStats := rfl
@[simp] theorem decideSlot_freeCount (i : SlotId) (x : SlotState) (s : State) : (decideSlot i x s).freeCount = s.freeCount := rfl
@[simp] theorem decideSlot_pending (i : SlotId) (x : SlotState) (s : State) : (decideSlot i x s).pending = s.pending := rfl

/-! ## OPEN slots tainted (R143): `taintOpen` -/

@[simp] theorem taintOpen_windows (s : State) : (taintOpen s).windows = s.windows := rfl
@[simp] theorem taintOpen_upstream (s : State) : (taintOpen s).upstream = s.upstream := rfl
@[simp] theorem taintOpen_ending (s : State) : (taintOpen s).ending = s.ending := rfl
@[simp] theorem taintOpen_stallTimer (s : State) : (taintOpen s).stallTimer = s.stallTimer := rfl
@[simp] theorem taintOpen_journal (s : State) : (taintOpen s).journal = s.journal := rfl
@[simp] theorem taintOpen_link (s : State) : (taintOpen s).link = s.link := rfl
@[simp] theorem taintOpen_standby (s : State) : (taintOpen s).standby = s.standby := rfl
@[simp] theorem taintOpen_maps (s : State) : (taintOpen s).maps = s.maps := rfl
@[simp] theorem taintOpen_resync (s : State) : (taintOpen s).resync = s.resync := rfl
@[simp] theorem taintOpen_role (s : State) : (taintOpen s).role = s.role := rfl
@[simp] theorem taintOpen_handoverTimer (s : State) : (taintOpen s).handoverTimer = s.handoverTimer := rfl
@[simp] theorem taintOpen_keptSwap (s : State) : (taintOpen s).keptSwap = s.keptSwap := rfl
@[simp] theorem taintOpen_port (s : State) : (taintOpen s).port = s.port := rfl
@[simp] theorem taintOpen_upstreamRun (s : State) : (taintOpen s).upstreamRun = s.upstreamRun := rfl
@[simp] theorem taintOpen_mem (s : State) : (taintOpen s).mem = s.mem := rfl
@[simp] theorem taintOpen_causes (s : State) : (taintOpen s).causes = s.causes := rfl
@[simp] theorem taintOpen_mask (s : State) : (taintOpen s).mask = s.mask := rfl
@[simp] theorem taintOpen_lastResult (s : State) : (taintOpen s).lastResult = s.lastResult := rfl
@[simp] theorem taintOpen_dataOut (s : State) : (taintOpen s).dataOut = s.dataOut := rfl
@[simp] theorem taintOpen_spi (s : State) : (taintOpen s).spi = s.spi := rfl
@[simp] theorem taintOpen_resetLow (s : State) : (taintOpen s).resetLow = s.resetLow := rfl
@[simp] theorem taintOpen_linkParams (s : State) : (taintOpen s).linkParams = s.linkParams := rfl
@[simp] theorem taintOpen_pathParams (s : State) : (taintOpen s).pathParams = s.pathParams := rfl
@[simp] theorem taintOpen_windowStats (s : State) : (taintOpen s).windowStats = s.windowStats := rfl
@[simp] theorem taintOpen_linkStats (s : State) : (taintOpen s).linkStats = s.linkStats := rfl
@[simp] theorem taintOpen_freeCount (s : State) : (taintOpen s).freeCount = s.freeCount := rfl
@[simp] theorem taintOpen_pending (s : State) : (taintOpen s).pending = s.pending := rfl

/-! ## A loss recorded (R65): `recordLoss` -/

@[simp] theorem recordLoss_windows (reason : LossReason) (peer : Option PartReason) (s : State) : (recordLoss reason peer s).windows = s.windows := rfl
@[simp] theorem recordLoss_upstream (reason : LossReason) (peer : Option PartReason) (s : State) : (recordLoss reason peer s).upstream = s.upstream := rfl
@[simp] theorem recordLoss_ending (reason : LossReason) (peer : Option PartReason) (s : State) : (recordLoss reason peer s).ending = s.ending := rfl
@[simp] theorem recordLoss_stallTimer (reason : LossReason) (peer : Option PartReason) (s : State) : (recordLoss reason peer s).stallTimer = s.stallTimer := rfl
@[simp] theorem recordLoss_journal (reason : LossReason) (peer : Option PartReason) (s : State) : (recordLoss reason peer s).journal = s.journal := rfl
@[simp] theorem recordLoss_standby (reason : LossReason) (peer : Option PartReason) (s : State) : (recordLoss reason peer s).standby = s.standby := rfl
@[simp] theorem recordLoss_maps (reason : LossReason) (peer : Option PartReason) (s : State) : (recordLoss reason peer s).maps = s.maps := rfl
@[simp] theorem recordLoss_resync (reason : LossReason) (peer : Option PartReason) (s : State) : (recordLoss reason peer s).resync = s.resync := rfl
@[simp] theorem recordLoss_role (reason : LossReason) (peer : Option PartReason) (s : State) : (recordLoss reason peer s).role = s.role := rfl
@[simp] theorem recordLoss_handoverTimer (reason : LossReason) (peer : Option PartReason) (s : State) : (recordLoss reason peer s).handoverTimer = s.handoverTimer := rfl
@[simp] theorem recordLoss_keptSwap (reason : LossReason) (peer : Option PartReason) (s : State) : (recordLoss reason peer s).keptSwap = s.keptSwap := rfl
@[simp] theorem recordLoss_slots (reason : LossReason) (peer : Option PartReason) (s : State) : (recordLoss reason peer s).slots = s.slots := rfl
@[simp] theorem recordLoss_port (reason : LossReason) (peer : Option PartReason) (s : State) : (recordLoss reason peer s).port = s.port := rfl
@[simp] theorem recordLoss_upstreamRun (reason : LossReason) (peer : Option PartReason) (s : State) : (recordLoss reason peer s).upstreamRun = s.upstreamRun := rfl
@[simp] theorem recordLoss_mem (reason : LossReason) (peer : Option PartReason) (s : State) : (recordLoss reason peer s).mem = s.mem := rfl
@[simp] theorem recordLoss_mask (reason : LossReason) (peer : Option PartReason) (s : State) : (recordLoss reason peer s).mask = s.mask := rfl
@[simp] theorem recordLoss_lastResult (reason : LossReason) (peer : Option PartReason) (s : State) : (recordLoss reason peer s).lastResult = s.lastResult := rfl
@[simp] theorem recordLoss_dataOut (reason : LossReason) (peer : Option PartReason) (s : State) : (recordLoss reason peer s).dataOut = s.dataOut := rfl
@[simp] theorem recordLoss_spi (reason : LossReason) (peer : Option PartReason) (s : State) : (recordLoss reason peer s).spi = s.spi := rfl
@[simp] theorem recordLoss_resetLow (reason : LossReason) (peer : Option PartReason) (s : State) : (recordLoss reason peer s).resetLow = s.resetLow := rfl
@[simp] theorem recordLoss_linkParams (reason : LossReason) (peer : Option PartReason) (s : State) : (recordLoss reason peer s).linkParams = s.linkParams := rfl
@[simp] theorem recordLoss_pathParams (reason : LossReason) (peer : Option PartReason) (s : State) : (recordLoss reason peer s).pathParams = s.pathParams := rfl
@[simp] theorem recordLoss_windowStats (reason : LossReason) (peer : Option PartReason) (s : State) : (recordLoss reason peer s).windowStats = s.windowStats := rfl
@[simp] theorem recordLoss_freeCount (reason : LossReason) (peer : Option PartReason) (s : State) : (recordLoss reason peer s).freeCount = s.freeCount := rfl
@[simp] theorem recordLoss_pending (reason : LossReason) (peer : Option PartReason) (s : State) : (recordLoss reason peer s).pending = s.pending := rfl

/-! ## Both directions zeroed (R59): `zeroSequence` -/

@[simp] theorem zeroSequence_windows (s : State) : (zeroSequence s).windows = s.windows := rfl
@[simp] theorem zeroSequence_upstream (s : State) : (zeroSequence s).upstream = s.upstream := rfl
@[simp] theorem zeroSequence_ending (s : State) : (zeroSequence s).ending = s.ending := rfl
@[simp] theorem zeroSequence_stallTimer (s : State) : (zeroSequence s).stallTimer = s.stallTimer := rfl
@[simp] theorem zeroSequence_journal (s : State) : (zeroSequence s).journal = s.journal := rfl
@[simp] theorem zeroSequence_maps (s : State) : (zeroSequence s).maps = s.maps := rfl
@[simp] theorem zeroSequence_resync (s : State) : (zeroSequence s).resync = s.resync := rfl
@[simp] theorem zeroSequence_role (s : State) : (zeroSequence s).role = s.role := rfl
@[simp] theorem zeroSequence_handoverTimer (s : State) : (zeroSequence s).handoverTimer = s.handoverTimer := rfl
@[simp] theorem zeroSequence_keptSwap (s : State) : (zeroSequence s).keptSwap = s.keptSwap := rfl
@[simp] theorem zeroSequence_slots (s : State) : (zeroSequence s).slots = s.slots := rfl
@[simp] theorem zeroSequence_port (s : State) : (zeroSequence s).port = s.port := rfl
@[simp] theorem zeroSequence_upstreamRun (s : State) : (zeroSequence s).upstreamRun = s.upstreamRun := rfl
@[simp] theorem zeroSequence_mem (s : State) : (zeroSequence s).mem = s.mem := rfl
@[simp] theorem zeroSequence_causes (s : State) : (zeroSequence s).causes = s.causes := rfl
@[simp] theorem zeroSequence_mask (s : State) : (zeroSequence s).mask = s.mask := rfl
@[simp] theorem zeroSequence_lastResult (s : State) : (zeroSequence s).lastResult = s.lastResult := rfl
@[simp] theorem zeroSequence_dataOut (s : State) : (zeroSequence s).dataOut = s.dataOut := rfl
@[simp] theorem zeroSequence_spi (s : State) : (zeroSequence s).spi = s.spi := rfl
@[simp] theorem zeroSequence_resetLow (s : State) : (zeroSequence s).resetLow = s.resetLow := rfl
@[simp] theorem zeroSequence_linkParams (s : State) : (zeroSequence s).linkParams = s.linkParams := rfl
@[simp] theorem zeroSequence_pathParams (s : State) : (zeroSequence s).pathParams = s.pathParams := rfl
@[simp] theorem zeroSequence_windowStats (s : State) : (zeroSequence s).windowStats = s.windowStats := rfl
@[simp] theorem zeroSequence_linkStats (s : State) : (zeroSequence s).linkStats = s.linkStats := rfl
@[simp] theorem zeroSequence_freeCount (s : State) : (zeroSequence s).freeCount = s.freeCount := rfl
@[simp] theorem zeroSequence_pending (s : State) : (zeroSequence s).pending = s.pending := rfl

/-! ## The standby side started (R59): `startStandbySide` -/

@[simp] theorem startStandbySide_windows (r : Bool) (s : State) : (startStandbySide r s).windows = s.windows := rfl
@[simp] theorem startStandbySide_upstream (r : Bool) (s : State) : (startStandbySide r s).upstream = s.upstream := rfl
@[simp] theorem startStandbySide_ending (r : Bool) (s : State) : (startStandbySide r s).ending = s.ending := rfl
@[simp] theorem startStandbySide_stallTimer (r : Bool) (s : State) : (startStandbySide r s).stallTimer = s.stallTimer := rfl
@[simp] theorem startStandbySide_journal (r : Bool) (s : State) : (startStandbySide r s).journal = s.journal := rfl
@[simp] theorem startStandbySide_maps (r : Bool) (s : State) : (startStandbySide r s).maps = s.maps := rfl
@[simp] theorem startStandbySide_resync (r : Bool) (s : State) : (startStandbySide r s).resync = s.resync := rfl
@[simp] theorem startStandbySide_role (r : Bool) (s : State) : (startStandbySide r s).role = s.role := rfl
@[simp] theorem startStandbySide_handoverTimer (r : Bool) (s : State) : (startStandbySide r s).handoverTimer = s.handoverTimer := rfl
@[simp] theorem startStandbySide_keptSwap (r : Bool) (s : State) : (startStandbySide r s).keptSwap = s.keptSwap := rfl
@[simp] theorem startStandbySide_slots (r : Bool) (s : State) : (startStandbySide r s).slots = s.slots := rfl
@[simp] theorem startStandbySide_port (r : Bool) (s : State) : (startStandbySide r s).port = s.port := rfl
@[simp] theorem startStandbySide_upstreamRun (r : Bool) (s : State) : (startStandbySide r s).upstreamRun = s.upstreamRun := rfl
@[simp] theorem startStandbySide_mem (r : Bool) (s : State) : (startStandbySide r s).mem = s.mem := rfl
@[simp] theorem startStandbySide_causes (r : Bool) (s : State) : (startStandbySide r s).causes = s.causes := rfl
@[simp] theorem startStandbySide_mask (r : Bool) (s : State) : (startStandbySide r s).mask = s.mask := rfl
@[simp] theorem startStandbySide_lastResult (r : Bool) (s : State) : (startStandbySide r s).lastResult = s.lastResult := rfl
@[simp] theorem startStandbySide_dataOut (r : Bool) (s : State) : (startStandbySide r s).dataOut = s.dataOut := rfl
@[simp] theorem startStandbySide_spi (r : Bool) (s : State) : (startStandbySide r s).spi = s.spi := rfl
@[simp] theorem startStandbySide_resetLow (r : Bool) (s : State) : (startStandbySide r s).resetLow = s.resetLow := rfl
@[simp] theorem startStandbySide_linkParams (r : Bool) (s : State) : (startStandbySide r s).linkParams = s.linkParams := rfl
@[simp] theorem startStandbySide_pathParams (r : Bool) (s : State) : (startStandbySide r s).pathParams = s.pathParams := rfl
@[simp] theorem startStandbySide_windowStats (r : Bool) (s : State) : (startStandbySide r s).windowStats = s.windowStats := rfl
@[simp] theorem startStandbySide_linkStats (r : Bool) (s : State) : (startStandbySide r s).linkStats = s.linkStats := rfl
@[simp] theorem startStandbySide_freeCount (r : Bool) (s : State) : (startStandbySide r s).freeCount = s.freeCount := rfl
@[simp] theorem startStandbySide_pending (r : Bool) (s : State) : (startStandbySide r s).pending = s.pending := rfl

/-! ## The record of a command (R164): `answer` -/

@[simp] theorem answer_windows (code : Byte) (r : Result) (slot : SlotId) (data : List Byte) (s : State) : (answer code r slot data s).windows = s.windows := rfl
@[simp] theorem answer_upstream (code : Byte) (r : Result) (slot : SlotId) (data : List Byte) (s : State) : (answer code r slot data s).upstream = s.upstream := rfl
@[simp] theorem answer_ending (code : Byte) (r : Result) (slot : SlotId) (data : List Byte) (s : State) : (answer code r slot data s).ending = s.ending := rfl
@[simp] theorem answer_stallTimer (code : Byte) (r : Result) (slot : SlotId) (data : List Byte) (s : State) : (answer code r slot data s).stallTimer = s.stallTimer := rfl
@[simp] theorem answer_journal (code : Byte) (r : Result) (slot : SlotId) (data : List Byte) (s : State) : (answer code r slot data s).journal = s.journal := rfl
@[simp] theorem answer_link (code : Byte) (r : Result) (slot : SlotId) (data : List Byte) (s : State) : (answer code r slot data s).link = s.link := rfl
@[simp] theorem answer_standby (code : Byte) (r : Result) (slot : SlotId) (data : List Byte) (s : State) : (answer code r slot data s).standby = s.standby := rfl
@[simp] theorem answer_maps (code : Byte) (r : Result) (slot : SlotId) (data : List Byte) (s : State) : (answer code r slot data s).maps = s.maps := rfl
@[simp] theorem answer_resync (code : Byte) (r : Result) (slot : SlotId) (data : List Byte) (s : State) : (answer code r slot data s).resync = s.resync := rfl
@[simp] theorem answer_role (code : Byte) (r : Result) (slot : SlotId) (data : List Byte) (s : State) : (answer code r slot data s).role = s.role := rfl
@[simp] theorem answer_handoverTimer (code : Byte) (r : Result) (slot : SlotId) (data : List Byte) (s : State) : (answer code r slot data s).handoverTimer = s.handoverTimer := rfl
@[simp] theorem answer_keptSwap (code : Byte) (r : Result) (slot : SlotId) (data : List Byte) (s : State) : (answer code r slot data s).keptSwap = s.keptSwap := rfl
@[simp] theorem answer_slots (code : Byte) (r : Result) (slot : SlotId) (data : List Byte) (s : State) : (answer code r slot data s).slots = s.slots := rfl
@[simp] theorem answer_port (code : Byte) (r : Result) (slot : SlotId) (data : List Byte) (s : State) : (answer code r slot data s).port = s.port := rfl
@[simp] theorem answer_upstreamRun (code : Byte) (r : Result) (slot : SlotId) (data : List Byte) (s : State) : (answer code r slot data s).upstreamRun = s.upstreamRun := rfl
@[simp] theorem answer_mem (code : Byte) (r : Result) (slot : SlotId) (data : List Byte) (s : State) : (answer code r slot data s).mem = s.mem := rfl
@[simp] theorem answer_causes (code : Byte) (r : Result) (slot : SlotId) (data : List Byte) (s : State) : (answer code r slot data s).causes = s.causes := rfl
@[simp] theorem answer_mask (code : Byte) (r : Result) (slot : SlotId) (data : List Byte) (s : State) : (answer code r slot data s).mask = s.mask := rfl
@[simp] theorem answer_resetLow (code : Byte) (r : Result) (slot : SlotId) (data : List Byte) (s : State) : (answer code r slot data s).resetLow = s.resetLow := rfl
@[simp] theorem answer_linkParams (code : Byte) (r : Result) (slot : SlotId) (data : List Byte) (s : State) : (answer code r slot data s).linkParams = s.linkParams := rfl
@[simp] theorem answer_pathParams (code : Byte) (r : Result) (slot : SlotId) (data : List Byte) (s : State) : (answer code r slot data s).pathParams = s.pathParams := rfl
@[simp] theorem answer_windowStats (code : Byte) (r : Result) (slot : SlotId) (data : List Byte) (s : State) : (answer code r slot data s).windowStats = s.windowStats := rfl
@[simp] theorem answer_linkStats (code : Byte) (r : Result) (slot : SlotId) (data : List Byte) (s : State) : (answer code r slot data s).linkStats = s.linkStats := rfl
@[simp] theorem answer_freeCount (code : Byte) (r : Result) (slot : SlotId) (data : List Byte) (s : State) : (answer code r slot data s).freeCount = s.freeCount := rfl
@[simp] theorem answer_pending (code : Byte) (r : Result) (slot : SlotId) (data : List Byte) (s : State) : (answer code r slot data s).pending = s.pending := rfl

/-! ## The written fields -/

@[simp] theorem setCause_causes (c : Cause) (s : State) : (setCause c s).causes = s.causes ||| c.bit := rfl
@[simp] theorem withWindowStats_windowStats (w : WindowId) (x : WindowStats) (s : State) :
    (withWindowStats w x s).windowStats = s.windowStats.set w x := rfl
@[simp] theorem appendEntry_journal (e : Entry) (s : State) : (appendEntry e s).journal = s.journal ++ [e] := rfl
@[simp] theorem endWithFault_upstream (s : State) : (endWithFault s).upstream = .none := rfl
@[simp] theorem endWithFault_ending (s : State) : (endWithFault s).ending = some .fault := rfl
@[simp] theorem startReply_link (s : State) :
    (startReply s).link = { s.link with replyTimer := some s.linkParams.replyMs } := rfl
@[simp] theorem stopReply_link (s : State) : (stopReply s).link = { s.link with replyTimer := none } := rfl
@[simp] theorem markTrack_maps (w : WindowId) (t : Nat) (s : State) :
    (markTrack w t s).maps = s.maps.set w (s.maps[w] ||| BitVec.twoPow 64 t) := rfl
@[simp] theorem clearTrack_maps (w : WindowId) (t : Nat) (s : State) :
    (clearTrack w t s).maps = s.maps.set w (s.maps[w] &&& ~~~BitVec.twoPow 64 t) := rfl
@[simp] theorem clearMaps_maps (s : State) : (clearMaps s).maps = Vector.replicate 8 0#64 := rfl
@[simp] theorem decideSlot_slots (i : SlotId) (x : SlotState) (s : State) :
    (decideSlot i x s).slots = s.slots.set i { s.slots[i] with state := x } := rfl
@[simp] theorem recordLoss_link (reason : LossReason) (peer : Option PartReason) (s : State) :
    (recordLoss reason peer s).link = { s.link with lastLoss := reason, peerPart := peer } := rfl
@[simp] theorem recordLoss_linkStats (reason : LossReason) (peer : Option PartReason) (s : State) :
    (recordLoss reason peer s).linkStats = { s.linkStats with lost := s.linkStats.lost + 1 } := rfl
@[simp] theorem recordLoss_causes (reason : LossReason) (peer : Option PartReason) (s : State) :
    (recordLoss reason peer s).causes = s.causes ||| Cause.linkLost.bit := rfl
@[simp] theorem zeroSequence_link (s : State) :
    (zeroSequence s).link = { s.link with ackPoint := 0#8, sendPoint := 0#8, cursor := 0#8 } := rfl
@[simp] theorem zeroSequence_standby (s : State) :
    (zeroSequence s).standby = { s.standby with receiveNext := 0#8, appliedNext := 0#8 } := rfl
@[simp] theorem answer_lastResult (code : Byte) (r : Result) (slot : SlotId) (data : List Byte) (s : State) :
    (answer code r slot data s).lastResult = { result := r, code := code, slot := slot } := rfl
@[simp] theorem answer_dataOut (code : Byte) (r : Result) (slot : SlotId) (data : List Byte) (s : State) :
    (answer code r slot data s).dataOut = data := rfl

/-! ## Frames of the operations that branch: setting the named fields back gives the state before -/

theorem representHeld_frame (s : State) :
    { representHeld s with upstream := s.upstream, stallTimer := s.stallTimer } = s := by
  simp only [representHeld]
  (repeat' split) <;> rfl
theorem representStalled_frame (s : State) :
    { representStalled s with upstream := s.upstream, stallTimer := s.stallTimer } = s := by
  simp only [representStalled]
  (repeat' split) <;> rfl
theorem faultHeld_frame (s : State) :
    { faultHeld s with upstream := s.upstream, ending := s.ending, stallTimer := s.stallTimer, causes := s.causes, windowStats := s.windowStats } = s := by
  simp only [faultHeld]
  (repeat' split) <;> rfl
theorem sendFrame_frame (f : Frame) (s : State) : { sendFrame f s with link := s.link } = s := by
  simp only [sendFrame]
  (repeat' split) <;> rfl
theorem sendClosed_frame (s : State) : { sendClosed s with link := s.link } = s := by
  simp only [sendClosed, sendFrame]
  (repeat' split) <;> rfl
theorem denyConflict_frame (session : Byte) (s : State) :
    { denyConflict session s with link := s.link, causes := s.causes } = s := by
  simp only [denyConflict, sendFrame, setCause]
  (repeat' split) <;> rfl
theorem heard_frame (s : State) : { heard s with link := s.link, standby := s.standby } = s := by
  simp only [heard]
  (repeat' split) <;> rfl
theorem heardOther_frame (s : State) : { heardOther s with link := s.link, standby := s.standby } = s := by
  simp only [heardOther, heard]
  (repeat' split) <;> rfl
theorem enterLinkState_frame (x : LinkState) (s : State) :
    { enterLinkState x s with link := s.link, upstream := s.upstream, stallTimer := s.stallTimer } = s := by
  simp only [enterLinkState, representHeld]
  (repeat' split) <;> rfl
theorem dropAccess_frame (o : PortOwner) (s : State) : { dropAccess o s with port := s.port } = s := by
  simp only [dropAccess]
  (repeat' split) <;> rfl
theorem resyncStop_frame (s : State) : { resyncStop s with maps := s.maps, resync := s.resync, port := s.port } = s := by
  simp only [resyncStop, dropAccess]
  (repeat' split) <;> rfl
theorem abandonWalk_frame (w : WindowId) (s : State) : { abandonWalk w s with resync := s.resync } = s := by
  simp only [abandonWalk]
  (repeat' split) <;> rfl
theorem flushLine_frame (w : WindowId) (line : LineNo) (s : State) : { flushLine w line s with maps := s.maps } = s := by
  simp only [flushLine]
  (repeat' split) <;> rfl
theorem noteMove_frame (old new : SyncState) (s : State) : { noteMove old new s with causes := s.causes } = s := by
  simp only [noteMove]
  (repeat' split) <;> rfl
theorem settleRejoin_frame (s : State) : { settleRejoin s with link := s.link } = s := rfl
theorem startTrack_frame (s : State) : { startTrack s with maps := s.maps, resync := s.resync } = s := by
  simp only [startTrack]
  (repeat' split) <;> rfl
theorem settleRequest_frame (before : State) (s : State) :
    { settleRequest before s with resync := s.resync, freeCount := s.freeCount } = s := by
  simp only [settleRequest]
  (repeat' split) <;> rfl
theorem settleRun_frame (before : State) (s : State) : { settleRun before s with upstreamRun := s.upstreamRun } = s := by
  simp only [settleRun]
  (repeat' split) <;> rfl
theorem answerDeferred_frame (s : State) : { answerDeferred s with link := s.link, causes := s.causes } = s := by
  simp only [answerDeferred, sendFrame, denyConflict, setCause]
  (repeat' split) <;> rfl

end Sys2Proof.Machine
end

