-- ==== Sys2Proof/Laws/Ops.lean ====
section
/-! SUPPORT. What each shared operation can do, said once: the operations over parameters, causes, frames of the link, the held write,
the track maps, the journal's lists, the ends of events and the changes of role. -/

namespace Sys2Proof.Machine

open Sys2Proof

/-! ## Steps and events -/

@[simp] theorem step_idle (s : State) (h : s.pending = []) : step s = .next s := by simp [step, h]

@[simp] theorem whenLive_high (f : State → State) (s : State) (h : s.resetLow = false) : whenLive f s = .next (f s) := by
  simp [whenLive, h]

@[simp] theorem whenLive_low (f : State → State) (s : State) (h : s.resetLow = true) : whenLive f s = .next s := by
  simp [whenLive, h]

@[simp] theorem whenLiveSettled_high (f : State → State) (s : State) (h : s.resetLow = false) :
    whenLiveSettled f s = .next (settle s (f s)) := by
  simp [whenLiveSettled, h]

@[simp] theorem whenLiveSettled_low (f : State → State) (s : State) (h : s.resetLow = true) :
    whenLiveSettled f s = .next s := by
  simp [whenLiveSettled, h]

/-! ## Parameter bytes -/

/-- A window number's byte names the window. -/
theorem windowOf_ofNat (w : WindowId) : windowOf (BitVec.ofNat 8 w.val) = some w := by fin_cases w <;> rfl

/-- A byte names a window exactly when it is that window's number. -/
theorem windowOf_eq_some_iff (b : Byte) (w : WindowId) : windowOf b = some w ↔ b.toNat = w.val := by
  simp only [windowOf]
  split
  · simp [Fin.ext_iff]
  · have := w.isLt
    simp only [reduceCtorEq, false_iff]; omega

/-- A byte names no window exactly when it is above 7. -/
theorem windowOf_eq_none_iff (b : Byte) : windowOf b = none ↔ 7 < b.toNat := by
  simp only [windowOf]
  split
  · simp only [reduceCtorEq, false_iff]; omega
  · simp only [true_iff]; omega

/-- A slot number's byte names the slot. -/
theorem slotOf_ofNat (i : SlotId) : slotOf (BitVec.ofNat 8 i.val) = some i := by fin_cases i <;> rfl

/-- A byte names no slot exactly when it is above 3. -/
theorem slotOf_eq_none_iff (b : Byte) : slotOf b = none ↔ 3 < b.toNat := by
  simp only [slotOf]
  split
  · simp only [reduceCtorEq, false_iff]; omega
  · simp only [true_iff]; omega

/-- The codes of a window's mode and policy decode to them. -/
@[simp] theorem modeOf_code (m : WindowMode) : modeOf m.code = some m := by cases m <;> rfl
@[simp] theorem policyOf_code (p : Policy) : policyOf p.code = some p := by cases p <;> rfl
theorem sizeExpOf_ofNat (k : Fin 13) : sizeExpOf (BitVec.ofNat 8 k.val) = some k := by fin_cases k <;> rfl

/-! ## Causes -/

/-- The positions of the causes are their own. -/
theorem Cause.position_injective (c d : Cause) : c.position = d.position ↔ c = d := by
  cases c <;> cases d <;> simp [Cause.position]

theorem Cause.position_lt (c : Cause) : c.position < 16 := by cases c <;> decide

/-- A cause's own bit and no other. -/
theorem Cause.getLsbD_bit (c d : Cause) : c.bit.getLsbD d.position = decide (d = c) := by
  cases c <;> cases d <;> decide

/-! ## Addresses -/

/-- The line of a word address is the address divided by 16 (R8). -/
theorem lineOfWord_eq (a : WordAddr) : lineOfWord a = BitVec.ofNat 18 (a.toNat / 16) := by
  apply BitVec.eq_of_toNat_eq
  simp only [lineOfWord, BitVec.extractLsb'_toNat, BitVec.toNat_ofNat, Nat.shiftRight_eq_div_pow]

/-! ## Sequence numbers -/

theorem seqInRange_iff (a b x : Byte) : seqInRange a b x = true ↔ (x - a).toNat ≤ (b - a).toNat := by simp [seqInRange]

theorem seqBefore_iff (a n x : Byte) : seqBefore a n x = true ↔ (x - a).toNat < (n - a).toNat := by simp [seqBefore]

/-- The entries before `n` are SENT entries with a sequence before `n`. -/
theorem isBefore_iff (a n : Byte) (x : EntryState) :
    x.isBefore a n = true ↔ ∃ q k, x = .sent q k ∧ (q - a).toNat < (n - a).toNat := by
  cases x <;> simp [EntryState.isBefore, seqBefore]

theorem isSent_iff (x : EntryState) : x.isSent = true ↔ ∃ q k, x = .sent q k := by cases x <;> simp [EntryState.isSent]

theorem hasSeq_iff (x : EntryState) (q : Byte) : x.hasSeq q = true ↔ ∃ k, x = .sent q k := by
  cases x <;> simp [EntryState.hasSeq]

/-! ## The held write and the transmitter -/

/-- Either a held write requests the port again, or there is none. -/
theorem representHeld_spec (s : State) :
    (∃ a w r, s.upstream = .held a w r ∧ representHeld s = { s with upstream := .requesting a false, stallTimer := none }) ∨
    ((∀ a w r, s.upstream ≠ .held a w r) ∧ representHeld s = s) := by
  cases h : s.upstream <;> simp [representHeld, h]

/-- A decided frame is either being sent or the last that waits. -/
theorem sendFrame_spec (f : Frame) (s : State) :
    (s.link.tx = none ∧ s.link.txQueue = [] ∧ sendFrame f s = { s with link.tx := some f }) ∨
    ((s.link.tx ≠ none ∨ s.link.txQueue ≠ []) ∧ sendFrame f s = { s with link.txQueue := s.link.txQueue ++ [f] }) := by
  cases ht : s.link.tx <;> cases hq : s.link.txQueue <;> simp [sendFrame, ht, hq]

@[simp] theorem sendFrame_state (f : Frame) (s : State) : (sendFrame f s).link.state = s.link.state := by
  simp only [sendFrame]; split <;> rfl

/-- What entering a link state does: the state, the frames that go in OFFLINE, and the re-presentation (R14, R49, R50). -/
theorem enterLinkState_spec (x : LinkState) (s : State) :
    enterLinkState x s =
      if x.associated then { s with link.state := x }
      else if x = .offline then representHeld { s with link.state := x, link.txQueue := [], link.rxBody := none }
      else representHeld { s with link.state := x } := by
  cases x <;> rfl

@[simp] theorem representHeld_link (s : State) : (representHeld s).link = s.link := by
  simp only [representHeld]; split <;> rfl

@[simp] theorem enterLinkState_state (x : LinkState) (s : State) : (enterLinkState x s).link.state = x := by
  cases x <;> simp [enterLinkState]

/-! ## Track maps -/

/-- The tracks of a range are those from first to last (R122). -/
theorem getLsbD_trackRange {first last : Nat} (h : last ≤ 63) (t : Nat) :
    (trackRange first last).getLsbD t = (decide (first ≤ t) && decide (t ≤ last)) := by
  simp only [trackRange, BitVec.getLsbD_and, BitVec.getLsbD_shiftLeft, BitVec.getLsbD_ushiftRight, BitVec.getLsbD_allOnes]
  by_cases h1 : t < 64 <;> by_cases h2 : first ≤ t <;> by_cases h3 : t ≤ last <;> simp [h1, h2, h3] <;> omega

/-- The tracks after a mark: those before and the marked one. -/
theorem getLsbD_markTrack (w v : WindowId) (t k : Nat) (s : State) :
    (markTrack w t s).maps[v].getLsbD k = (s.maps[v].getLsbD k || (decide (v = w) && decide (k = t) && decide (k < 64))) := by
  by_cases h : v = w
  · subst h
    by_cases hk : k < 64 <;> by_cases ht : k = t <;> simp [markTrack, BitVec.getLsbD_twoPow, hk, ht]
    omega
  · have : w.val ≠ v.val := fun e => h (Fin.ext e.symm)
    simp [markTrack, h, this]

/-- The lowest marked track of a map. -/
theorem lowestTrack_eq_some {m : TrackMap} {t : Nat} :
    lowestTrack m = some t ↔ m.getLsbD t = true ∧ ∀ u < t, m.getLsbD u = false := by
  simp only [lowestTrack, List.find?_range_eq_some]
  constructor
  · rintro ⟨h1, -, h3⟩; exact ⟨h1, fun u hu => by simpa using h3 u hu⟩
  · rintro ⟨h1, h2⟩
    exact ⟨h1, List.mem_range.mpr (BitVec.lt_of_getLsbD h1), fun u hu => by simpa using h2 u hu⟩

/-! ## The journal's lists -/

/-- A merge changes the youngest entry alone (R29). -/
theorem mergeYoungest_append (new : List (Nat × Byte)) (older : List Entry) (w : WindowId) (line : LineNo)
    (bytes : List (Nat × Byte)) (x : EntryState) :
    mergeYoungest new (older ++ [{ body := .write w line bytes, state := x }]) =
      older ++ [{ body := .write w line (mergeBytes bytes new), state := x }] := by
  induction older with
  | nil => rfl
  | cons e rest ih =>
    cases rest with
    | nil => rfl
    | cons e' rest' => simpa [mergeYoungest] using ih

/-- A merge keeps the number of entries. -/
theorem length_mergeYoungest (new : List (Nat × Byte)) (es : List Entry) : (mergeYoungest new es).length = es.length := by
  induction es with
  | nil => rfl
  | cons e rest ih =>
    cases rest with
    | nil => simp only [mergeYoungest]; split <;> rfl
    | cons e' rest' => simpa [mergeYoungest] using ih

/-- The oldest entry that is not SENT, behind the SENT ones. -/
theorem firstUnsent_append (older younger : List Entry) (e : Entry) (ho : ∀ x ∈ older, x.state.isSent = true)
    (he : e.state.isSent = false) : firstUnsent (older ++ e :: younger) = some e := by
  induction older with
  | nil => simp [firstUnsent, he]
  | cons x rest ih =>
    have := ho x (by simp)
    simp only [List.cons_append, firstUnsent, this, if_true]
    exact ih fun y hy => ho y (by simp [hy])

/-- Its state set, and no other entry's. -/
theorem setFirstUnsent_append (st : EntryState) (older younger : List Entry) (e : Entry)
    (ho : ∀ x ∈ older, x.state.isSent = true) (he : e.state.isSent = false) :
    setFirstUnsent st (older ++ e :: younger) = older ++ { e with state := st } :: younger := by
  induction older with
  | nil => simp [setFirstUnsent, he]
  | cons x rest ih =>
    have := ho x (by simp)
    simp only [List.cons_append, setFirstUnsent, this, if_true]
    rw [ih fun y hy => ho y (by simp [hy])]

/-- With every entry SENT there is none. -/
theorem firstUnsent_eq_none (es : List Entry) (h : ∀ x ∈ es, x.state.isSent = true) : firstUnsent es = none := by
  induction es with
  | nil => rfl
  | cons x rest ih =>
    simp only [firstUnsent, h x (by simp), if_true]
    exact ih fun y hy => h y (by simp [hy])

/-- A word goes to the FILLING entry alone (R32). -/
theorem takeWord_journal (word : WordData) (last : Bool) (s : State) (older younger : List Entry) (w : WindowId)
    (line : LineNo) (data : List Byte) (hj : s.journal = older ++ { body := .fill w line data, state := .filling } :: younger)
    (hn : ∀ e ∈ older ++ younger, e.state ≠ .filling) :
    (takeWord word last s).journal =
      older ++ { body := .fill w line (data ++ word.toList), state := if last then .pending else .filling } :: younger := by
  have keep (es : List Entry) (h : ∀ e ∈ es, e.state ≠ .filling) :
      (takeWord word last { s with journal := es }).journal = es := by
    simp only [takeWord]
    conv_rhs => rw [← List.map_id es]
    apply List.map_congr_left
    intro e he
    have := h e he
    obtain ⟨b, x⟩ := e
    cases b <;> cases x <;> simp_all
  have h1 := keep older fun e he => hn e (by simp [he])
  have h2 := keep younger fun e he => hn e (by simp [he])
  simp only [takeWord] at h1 h2 ⊢
  rw [hj, List.map_append, List.map_cons, h1, h2]

/-! ## The flush (R41) -/

@[simp] theorem flush_journal (s : State) : (flush s).journal = [] := rfl

/-- One entry of the flush writes maps, slots and causes alone. -/
theorem flushEntry_frame (s : State) (e : Entry) :
    { flushEntry s e with maps := s.maps, slots := s.slots, causes := s.causes } = s := by
  simp only [flushEntry, flushLine]
  (repeat' split) <;> rfl

/-- The flush writes maps, slots, causes and the journal alone. -/
theorem flush_frame (s : State) :
    { flush s with maps := s.maps, slots := s.slots, causes := s.causes, journal := s.journal } = s := by
  have all (es : List Entry) : ∀ t : State,
      { es.foldl flushEntry t with maps := t.maps, slots := t.slots, causes := t.causes } = t := by
    induction es with
    | nil => intro t; rfl
    | cons e rest ih =>
      intro t
      have h1 := ih (flushEntry t e)
      have h2 := flushEntry_frame t e
      have h3 := congrArg (fun x : State => { x with maps := t.maps, slots := t.slots, causes := t.causes }) h1
      exact h3.trans h2
  have h := congrArg (fun x : State => { x with journal := s.journal }) (all s.journal s)
  exact h

/-! ## The windows' moves (R5) -/

/-- The windows' moves write the causes alone. -/
theorem noteSync_frame (before s : State) : { noteSync before s with causes := s.causes } = s := by
  have all (ws : List WindowId) : ∀ t : State,
      { ws.foldl (fun t w => noteMove (syncState before w) (syncState s w) t) t with causes := t.causes } = t := by
    induction ws with
    | nil => intro t; rfl
    | cons w rest ih =>
      intro t
      have h1 := ih (noteMove (syncState before w) (syncState s w) t)
      have h2 := noteMove_frame (syncState before w) (syncState s w) t
      have h3 := congrArg (fun x : State => { x with causes := t.causes }) h1
      exact h3.trans h2
  exact all windowIds s

/-! ## Roles -/

@[simp] theorem answerDeferred_role (s : State) : (answerDeferred s).role = s.role := by
  have h := congrArg State.role (answerDeferred_frame s)
  exact h

@[simp] theorem representHeld_role (s : State) : (representHeld s).role = s.role := by
  have h := congrArg State.role (representHeld_frame s)
  exact h

/-- A change of role leaves the new role. -/
@[simp] theorem changeRole_role (new : Role) (s : State) : (changeRole new s).role = new := by simp [changeRole]

@[simp] theorem becomeActiveMarked_role (s : State) : (becomeActiveMarked s).role = .active := by simp [becomeActiveMarked]

@[simp] theorem completePromotion_role (s : State) : (completePromotion s).role = .active := by simp [completePromotion]

end Sys2Proof.Machine
end

