-- ==== Sys2Proof/Laws/Pins.lean ====
section
/-! SUPPORT. What an edge of the management port and a symbol of the line can change: the port's transfer, the body open at the
receiver, and the waiting commands. -/

namespace Sys2Proof.Machine

open Sys2Proof

theorem csFall_frame (s : State) : { csFall s with spi := s.spi } = s := by
  unfold csFall
  split
  · rfl
  · split <;> rfl

theorem sckFall_frame (s : State) : { sckFall s with spi := s.spi } = s := by
  unfold sckFall
  split
  · rfl
  · split <;> rfl

theorem sckRise_frame (bit : Bool) (s : State) : { sckRise bit s with spi := s.spi, pending := s.pending } = s := by
  unfold sckRise
  split
  · rfl
  · split
    · dsimp only
      split
      · split <;> rfl
      · rfl
    · rfl
    · rfl

theorem csRise_frame (s : State) : { csRise s with spi := s.spi, pending := s.pending } = s := by
  unfold csRise
  split
  · rfl
  · split
    · rfl
    · rfl
    · dsimp only
      split
      · rfl
      · split <;> rfl

theorem receiveSymbol_frame (x : LineSymbol) (s : State) :
    { receiveSymbol x s with link.rxBody := s.link.rxBody, pending := s.pending } = s := by
  unfold receiveSymbol
  split
  · rfl
  · split <;> rfl

end Sys2Proof.Machine
end

