-- ==== Sys2Proof/Tests/Slice0.lean ====
section
/-! SUPPORT. The model's own tests: the ill-formed terms `Instr.wellFormed` refuses, the encodings written out from the manual's tables,
one or two single events for each command, and for each statement of Certificates/Slice0/Obligations.lean that has hypotheses a theorem
whose name begins with `witness_`, which shows concrete states and operands that meet them, clause by clause. -/

namespace Sys2Proof.Tests

open Sys2Proof Sys2Proof.Machine

/-! ## Small states -/

/-- The state an event leaves. -/
def after (i : Instr) (s : State) : State :=
  match exec i s with
  | .next t => t
  | .fault _ | .refused _ => s

/-- The part right after RESET#. -/
def live : State := State.reset

/-- W2 of the worked example 1.5: MIRROR, STALL, base 40000h, 64 KiB. -/
def w2 : Window := { mode := .mirror, base := 0x040000#24, sizeExp := 4, policy := .stall }

/-- A part with W2 set, in a role and a link state. -/
def part (r : Role) (l : LinkState) : State :=
  { State.reset with role := r, link.state := l, link.enable := true, windows := State.reset.windows.set 2 w2 }

/-- An ACTIVE part with the link UP and W2 IN_SYNC. -/
def activeUp : State := part .active .up

/-- A STANDBY part with the link UP. -/
def standbyUpPart : State := part .standby .up

/-- The write of the worked example 1.5: word 10C05h, lanes 0 and 1. -/
def hostWrite : Access := { kind := .write, addr := 0x10C05#22, lanes := 0b0011#4, data := #v[0x11#8, 0x22#8, 0x33#8, 0x44#8] }

/-- A read of the same word. -/
def hostRead : Access := { hostWrite with kind := .read }

/-- A state whose upstream write requests the port. -/
def asking (s : State) (forced : Bool) : State := { s with upstream := .requesting hostWrite forced }

/-- Entries of the journal. -/
def writeEntry (line : LineNo) (x : EntryState) : Entry := { body := .write 2 line [(20, 0x11#8)], state := x }
def fillEntry (x : EntryState) : Entry := { body := .fill 2 0x1000#18 [], state := x }
def markEntry (tag : Byte) (i : SlotId) (x : EntryState) : Entry := { body := .mark tag i, state := x }
def takeoverEntry (x : EntryState) : Entry := { body := .takeover, state := x }

/-- A full journal, as in the worked example 1.5: 8 SENT entries and 56 PENDING ones. -/
def fullJournal : List Entry :=
  (List.range 8).map (fun q => writeEntry 0x1030#18 (.sent (BitVec.ofNat 8 q) 1)) ++
  List.replicate 56 (writeEntry 0x1030#18 .pending)

/-- The ACTIVE part with a full journal. -/
def activeFull : State := { activeUp with journal := fullJournal, link.sendPoint := 8#8, link.cursor := 8#8 }

/-- Three SENT entries, the second a MARK of slot 1. -/
def activeSent : State :=
  { activeUp with
    journal :=
      [writeEntry 0x1030#18 (.sent 0#8 1), markEntry 7#8 1 (.sent 1#8 1), writeEntry 0x1031#18 (.sent 2#8 1),
       writeEntry 0x1032#18 .pending]
    slots := State.reset.slots.set 1 { state := .opened, tag := 7#8, taint := false }
    link.sendPoint := 3#8, link.cursor := 3#8, link.replyTimer := some 10, link.quietTimer := .running 200 }

/-- A walk in W2. -/
def walk : Walk := { window := 2, track := 5, offset := 0 }

/-- A record in the apply queue, and a STANDBY part with such queues. -/
def record (q : Byte) (r : Record) : Received := { tseq := q, record := r }
def oneWrite : Record := .write 0x10C0#18 [(20, 0x11#8), (21, 0x22#8)]
def queued (s : State) (rs : List Record) : State :=
  { s with
    standby.queue := rs.zipIdx.map fun x => record (BitVec.ofNat 8 x.2) x.1
    standby.receiveNext := BitVec.ofNat 8 rs.length }

/-- A HANDING_OVER part with its TAKEOVER in a state. -/
def handing (x : EntryState) : State :=
  { part .handingOver .up with
    journal := [takeoverEntry x], handoverTimer := some 500, link.sendPoint := if x.isSent then 1#8 else 0#8
    link.cursor := if x.isSent then 1#8 else 0#8 }

/-- A write held for a reason. -/
def holding (s : State) (r : HoldReason) : State :=
  { s with upstream := .held hostWrite 2 r, stallTimer := if r = .stall then some 100 else none }

/-! ## Ill-formed terms -/

theorem test_illFormed_rec_empty : (Instr.recReceived 0#8 (.write 0#18 [])).wellFormed = false := by decide
theorem test_illFormed_rec_order : (Instr.recReceived 0#8 (.write 0#18 [(3, 1#8), (3, 2#8)])).wellFormed = false := by decide
theorem test_illFormed_rec_place : (Instr.recReceived 0#8 (.write 0#18 [(64, 1#8)])).wellFormed = false := by decide
theorem test_illFormed_rec_fill : (Instr.recReceived 0#8 (.fill 0#18 [1#8])).wellFormed = false := by decide
theorem test_illFormed_discard : (Instr.frameDiscard (.failedTest (Frame.body .ask))).wellFormed = false := by decide +kernel
theorem test_illFormed_enable : (Instr.linkControlEnable 0x02#8).wellFormed = false := by decide
theorem test_illFormed_disable : (Instr.linkControlDisable 0x01#8).wellFormed = false := by decide
theorem test_illFormed_framing_read : (Instr.framing (some 0x50#8)).wellFormed = false := by decide
theorem test_illFormed_framing_unknown : (Instr.framing (some 0x99#8)).wellFormed = false := by decide
theorem test_illFormed_unknown : (Instr.unknown 0x50#8).wellFormed = false := by decide
theorem test_wellFormed : (Instr.recReceived 0#8 oneWrite).wellFormed = true := by decide

/-! ## Encodings, from the tables of chapter 11 -/

/-- The check value of 123456789 (R179). -/
theorem test_crc_check :
    crc16 [0x31#8, 0x32#8, 0x33#8, 0x34#8, 0x35#8, 0x36#8, 0x37#8, 0x38#8, 0x39#8] = 0x29B1#16 := by decide +kernel

/-- A JOIN body before its check value: kind, flags, session, the role ACTIVE (R179). -/
theorem test_join_fields : (Frame.join 0x07#8).fields = [0x11#8, 0x00#8, 0x07#8, 0x01#8] := by decide

/-- An ACK with HOLD and SWAP: flags 06h (R179). -/
theorem test_ack_fields : (Frame.ack 0x0D#8 false true true).fields = [0x22#8, 0x06#8, 0x0D#8] := by decide

/-- A WRITE of bytes 0, 3, 20 and 63: the mask is 8000000000100009h, most significant byte first (R180). -/
theorem test_write_fields :
    Record.fields (.write 0x10C0#18 [(0, 0xA0#8), (3, 0xA3#8), (20, 0xB4#8), (63, 0xC3#8)]) =
      [0x01#8, 0x00#8, 0x10#8, 0xC0#8, 0x80#8, 0x00#8, 0x00#8, 0x00#8, 0x00#8, 0x10#8, 0x00#8, 0x09#8,
       0xA0#8, 0xA3#8, 0xB4#8, 0xC3#8] := by decide

/-- A body whose check value is wrong in one bit is no frame (R50). -/
theorem test_body_broken : decodeBody [0x24#8, 0x00#8, 0x00#8, 0x00#8] = none := by decide +kernel

/-- WRITE WINDOW of W2, MIRROR, 040000h, 64 KiB, STALL (R182). -/
theorem test_transfer_write_window :
    decodeTransfer [0x61#8, 0x02#8, 0x01#8, 0x04#8, 0x00#8, 0x00#8, 0x04#8, 0x00#8] false =
      some (.writeWindow 2#8 1#8 0x040000#24 4#8 0#8) := by decide

/-- WRITE PATH PARAMETERS: 100 µs, 4, 8, 500 ms (R182). -/
theorem test_transfer_path :
    decodeTransfer [0x8A#8, 0x00#8, 0x64#8, 0x04#8, 0x08#8, 0x32#8] false =
      some (.writePathParameters 100#16 4#8 8#8 50#8) := by decide

/-- CS# rises inside the last byte of a command without data-out, and after no whole byte at all (R163). -/
theorem test_transfer_cut : decodeTransfer [0x72#8] true = some (.framing (some 0x72#8)) ∧
    decodeTransfer [] true = some (.framing none) ∧ decodeTransfer [] false = none := by decide

/-! ## Single events: the word bus -/

theorem test_presentation_empty :
    (after (.upstreamPresentation { hostWrite with lanes := 0#4 }) live).ending = some .fault := by decide

/-- Worked example 1.5: the grant of the write with a full journal. -/
theorem test_grant_hold :
    (after .arbiterGrant (asking activeFull false)).upstream = .held hostWrite 2 .stall ∧
    (after .arbiterGrant (asking activeFull false)).stallTimer = some 100 := by decide

/-- Worked example 1.5: the capture of line 10C0h, bytes 20 and 21. -/
theorem test_grant_capture :
    (after .arbiterGrant (asking activeUp false)).journal =
      [{ body := .write 2 0x10C0#18 [(20, 0x11#8), (21, 0x22#8)], state := .pending }] := by decide

/-- Worked example 1.5: forced to diverge, the write marks track 12 of W2, which the engine takes up at once (R113). -/
theorem test_grant_diverge :
    (after .arbiterGrant (asking activeUp true)).resync = .waiting { window := 2, track := 12, offset := 0 } true ∧
    hasCause (after .arbiterGrant (asking activeUp true)) .windowDiverged = true := by decide

theorem test_completion_write :
    Memory.read (after .downstreamCompletion { live with
      upstream := .inProgress hostWrite, port := some { owner := .upstream, access := hostWrite } }).mem 0x43015 =
        0x22#8 := by decide

theorem test_completion_read :
    (after .downstreamCompletion { live with
      mem := [(0x43014, 0x5A#8)], upstream := .inProgress hostRead
      port := some { owner := .upstream, access := hostRead } }).ending =
        some (.done (some #v[0x5A#8, 0#8, 0#8, 0#8])) := by decide

/-- Worked example 1.5: the stall limit expires. -/
theorem test_stall_expiry :
    (after .stallLimitExpiry (holding activeFull .stall)).upstream = .requesting hostWrite true ∧
    hasCause (after .stallLimitExpiry (holding activeFull .stall)) .stallExpired = true := by decide

/-! ## Single events: the standby's engine and the timers -/

theorem test_take_record :
    (after .applyTakeRecord (queued standbyUpPart [oneWrite])).standby.engine = .applying 5 := by decide

theorem test_take_mismatch :
    hasCause (after .applyTakeRecord (queued standbyUpPart [.fill 0#18 (List.replicate 64 0#8)])) .mapMismatch = true := by
  decide

theorem test_rejoin :
    (after .rejoinDelayExpiry { part .active .idle with link.rejoinTimer := some 100, link.session := 255#8 }).link.tx =
      some (.join 0#8) := by decide

theorem test_reply_up :
    (after .replyTimerExpiry activeSent).link.state = .recovery ∧ (after .replyTimerExpiry activeSent).link.tx = some .ask := by
  decide

theorem test_quiet_with_sent :
    (after .quietTimerExpiry activeSent).link.state = .up ∧ (after .quietTimerExpiry activeSent).link.quietTimer = .expired := by
  decide

theorem test_silence :
    (after .silenceTimerExpiry { standbyUpPart with standby.silenceTimer := some 600 }).link.lastLoss = .silence := by
  decide

theorem test_handover_expiry :
    (after .handoverTimerExpiry (handing .pending)).role = .active ∧
    (after .handoverTimerExpiry (handing (.sent 0#8 1))).role = .handingOver := by decide

theorem test_rec_decision :
    (after .recDecision { activeUp with journal := [writeEntry 0x10C0#18 .pending], link.sendPoint := 255#8,
                                        link.cursor := 255#8, link.ackPoint := 255#8 }).link.tx =
      some (.record 255#8 (.write 0x10C0#18 [(20, 0x11#8)])) := by decide

theorem test_frame_end :
    (after .frameTransmissionEnd { live with link.tx := some .ask, link.txQueue := [.closed] }).link.tx = some .closed := by
  decide

/-! ## Single events: received frames -/

theorem test_discard : (after (.frameDiscard .brokenOff) activeUp).linkStats.discarded = 1#32 := by decide

theorem test_join_standby :
    (after (.joinReceived 9#8) (part .standby .idle)).link.state = .up ∧
    (after (.joinReceived 9#8) (part .standby .idle)).link.tx = some (.accept 9#8) := by decide

/-- Worked example 3.10: two active parts. -/
theorem test_join_active :
    (after (.joinReceived 9#8) (part .active .joining)).link.tx = some (.deny 9#8 .roleConflict) := by decide

theorem test_accept : hasCause (after (.acceptReceived 0#8) (part .active .joining)) .linkUp = true := by decide

theorem test_deny : (after (.denyReceived 0#8 .roleConflict) (part .active .joining)).link.joinSuspended = true := by
  decide

/-- Worked example 6.7, event 11: the flush marks the track of a SENT entry. -/
theorem test_part_flush :
    (after (.partReceived .disabled) activeSent).maps[2].getLsbD 3 = true ∧
    (after (.partReceived .disabled) activeSent).slots[1].state = .failed := by decide

theorem test_closed_leaving :
    (after .closedReceived { part .active .leaving with link.enable := false }).link.state = .offline := by decide

theorem test_rec_out_of_sequence :
    (after (.recReceived 1#8 oneWrite) standbyUpPart).link.tx = some (.resend 0#8 0#8 false) := by decide

theorem test_rec_hold :
    (after (.recReceived 11#8 .takeover) (queued standbyUpPart (List.replicate 11 oneWrite))).link.tx =
      some (.ack 0#8 false true false) := by decide

theorem test_ack_mark :
    (after (.ackReceived 2#8 false false false) activeSent).slots[1].state = .done ∧
    (after (.ackReceived 2#8 false false false) activeSent).journal.length = 2 := by decide

theorem test_ack_out_of_range :
    (after (.ackReceived 4#8 false false false) activeSent).link.lastLoss = .sequence := by decide

theorem test_ack_takeover :
    (after (.ackReceived 1#8 false false true) (handing (.sent 0#8 1))).role = .standby := by decide

theorem test_resend : (after (.resendReceived 1#8 1#8 true) activeSent).link.cursor = 1#8 := by decide

theorem test_ask_standby : (after .askReceived standbyUpPart).link.tx = some (.ack 0#8 true false false) := by decide

/-! ## Single events: the management port -/

theorem test_status : (after .readStatus activeFull).dataOut = [0x01#8, 0x03#8, 64#8, 0x01#8, 0#8, 0#8, 0#8] := by decide

theorem test_causes : (after .readCauses (setCause .mapMismatch live)).dataOut = [0x80#8, 0x00#8] := by decide

theorem test_clear_causes :
    (after (.clearCauses 0x8000#16) (setCause .linkUp (setCause .mapMismatch live))).causes = 0x0001#16 := by decide

theorem test_mask : irqAsserted (after (.writeCauseMask 0xFFFE#16) (setCause .linkUp live)) = true := by decide

theorem test_read_mask : (after .readCauseMask live).dataOut = [0xFF#8, 0xFF#8] := by decide

theorem test_read_window :
    (after (.readWindow 2#8) activeUp).dataOut = [0x01#8, 0x04#8, 0x00#8, 0x00#8, 0x04#8, 0x00#8, 0x02#8] := by decide

theorem test_write_window_busy :
    (after (.writeWindow 2#8 1#8 0x050000#24 4#8 0#8) activeUp).lastResult.result = .busy := by decide

theorem test_write_window_align :
    (after (.writeWindow 0#8 1#8 0x001000#24 1#8 0#8) activeUp).lastResult.result = .badParam := by decide

theorem test_read_track_map :
    (after (.readTrackMap 2#8) { activeUp with maps := activeUp.maps.set 2 0x8000000000000001#64 }).dataOut =
      [0x04#8, 0x80#8, 0#8, 0#8, 0#8, 0#8, 0#8, 0#8, 0x01#8, 0#8, 0#8, 0#8, 0#8, 0#8] := by decide

theorem test_mark_window :
    (after (.markWindow 2#8 0#8 63#8) (part .active .idle)).maps[2] = BitVec.allOnes 64 := by decide

theorem test_set_role :
    (after (.setRole 0x01#8) (part .unassigned .offline)).maps[2] = BitVec.allOnes 64 ∧
    (after (.setRole 0x01#8) (part .unassigned .offline)).role = .active := by decide

theorem test_promote_busy : (after (.promote 0x00#8) standbyUpPart).lastResult.result = .busy := by decide

theorem test_promote_force :
    (after (.promote 0x01#8) standbyUpPart).role = .active ∧ (after (.promote 0x01#8) standbyUpPart).link.state = .leaving := by
  decide

theorem test_handover :
    (after .handover activeUp).journal = [takeoverEntry .pending] ∧ (after .handover activeUp).handoverTimer = some 500 := by
  decide

theorem test_enable : (after (.linkControlEnable 0x01#8) live).link.state = .idle := by decide

theorem test_disable : (after (.linkControlDisable 0x02#8) standbyUpPart).link.tx = some (.part .disabled) := by decide

theorem test_write_link :
    (after (.writeLinkParameters 33#8 1#8 1#8 0#8 1#8) live).lastResult.result = .badParam ∧
    (after (.writeLinkParameters 32#8 1#8 15#8 0#8 1#8) live).linkParams.window = 32#8 := by decide

theorem test_read_link : (after .readLinkParameters live).dataOut = [8#8, 10#8, 3#8, 20#8, 10#8] := by decide

theorem test_read_link_state :
    (after .readLinkState activeSent).dataOut = [3#8, 1#8, 0#8, 0#8, 0#8, 3#8, 3#8, 0#8, 0#8, 0#8, 0#8] := by decide

theorem test_checkpoint :
    (after (.checkpoint 9#8) (handing .pending)).journal = [markEntry 9#8 0 .pending, takeoverEntry .pending] := by
  decide

theorem test_read_checkpoints :
    (after .readCheckpoints activeSent).dataOut = [0#8, 0#8, 1#8, 7#8, 0#8, 0#8, 0#8, 0#8] := by decide

theorem test_release_open : (after (.releaseCheckpoint 1#8) activeSent).lastResult.result = .badParam := by decide

theorem test_journal_summary :
    (after .readJournalSummary activeSent).dataOut = [0#8, 1#8, 3#8, 3#8, 0#8, 1#8, 0#8, 60#8] := by decide

theorem test_statistics_clear :
    (after (.readStatistics 8#8 1#8) { live with linkStats.lost := 0x01020304#32 }).dataOut.drop 24 =
      [1#8, 2#8, 3#8, 4#8] ∧
    (after (.readStatistics 8#8 1#8) { live with linkStats.lost := 0x01020304#32 }).linkStats.lost = 0#32 := by decide

theorem test_write_path : (after (.writePathParameters 1024#16 4#8 8#8 50#8) live).lastResult.result = .badParam := by
  decide

theorem test_read_path : (after .readPathParameters live).dataOut = [0#8, 100#8, 4#8, 8#8, 50#8] := by decide

theorem test_identification :
    (after .readIdentification live).dataOut = [0x5A#8, 0x21#8, 0x40#8, 0x01#8, 8#8, 64#8, 16#8, 4#8] := by decide

theorem test_soft_reset :
    (after .softReset (holding activeFull .stall)).upstream = .requesting hostWrite false ∧
    (after .softReset (holding activeFull .stall)).windows = activeFull.windows := by decide

theorem test_framing : (after (.framing (some 0x61#8)) live).lastResult = { result := .framing, code := 0x61#8, slot := 0 } := by
  decide

theorem test_unknown : (after (.unknown 0x99#8) live).lastResult = { result := .unknown, code := 0x99#8, slot := 0 } := by decide

theorem test_reset_pin : (after .resetPin activeFull).resetLow = true ∧ (after .resetPin activeFull).role = .unassigned := by
  decide

theorem test_reset_release :
    (after (.resetRelease true) { live with resetLow := true }).spi = .waitHigh ∧
    (after (.resetRelease false) { live with resetLow := true }).resetLow = false := by decide

/-! ## The pins -/

/-- A whole transfer of READ STATISTICS' code byte, bit by bit, and its end. -/
theorem test_port_framing :
    (csRise (([true, false, false, false, true, false, false, false].foldl (fun s b => sckRise b s) (csFall live)))).pending =
      [.framing (some 0x88#8)] := by decide

/-- The port with READ CAUSE MASK shifted in mode 0 and its command taken: SDO stays low until the next falling edge and then carries the
mask FFFFh, most significant bit first (R162, R168). -/
def maskShifted : State :=
  let s := ([false, true, false, true, false, true, false].foldl (fun s b => sckFall (sckRise b s)) (csFall live))
  after .readCauseMask { sckRise false s with pending := [] }

theorem test_port_data_out :
    sdo maskShifted = some false ∧ sdo (sckFall maskShifted) = some true ∧
    (sckRise false (([false, false, false, false, false, false, false, false].foldl
      (fun s b => sckFall (sckRise b s)) (csFall live)))).pending = [] := by decide

/-- CS# high again after a falling edge of SCK alone (R163, log entry 26), and after no edge at all. -/
theorem test_port_edges :
    (csRise (sckFall (csFall live))).pending = [.framing none] ∧ (csRise (csFall live)).pending = [] := by decide

/-- The line is examined in IDLE and not in OFFLINE (R50). -/
theorem test_line_idle :
    (([LineSymbol.fs, .data 0x24#8, .idl].foldl (fun s x => receiveSymbol x s) (part .active .idle))).pending =
      [.frameDiscard .brokenOff] ∧
    (([LineSymbol.fs, .data 0x24#8, .idl].foldl (fun s x => receiveSymbol x s) live)).pending = [] := by decide

/-! ## Witnesses: states and operands that meet the hypotheses of the statements, clause by clause -/

theorem witness_CommandLeavesItsRecord :
    transferBytes (.checkpoint 9#8) = some (0x80#8 :: [9#8]) ∧ activeSent.resetLow = false ∧
    (after (.checkpoint 9#8) { activeSent with slots := activeSent.slots.set 0 { state := .done, tag := 1#8, taint := true } }
      ).lastResult.slot = 2 ∧
    (after (.checkpoint 9#8) live).lastResult.result = .wrongRole ∧ live.spi ≠ .waitHigh ∧
    ({ live with spi := .waitHigh } : State).spi = .waitHigh := by decide

theorem witness_CausesAreSticky :
    live.resetLow = false ∧ exec .softReset live = .next (after .softReset live) ∧
    exec .resetPin live = .next (after .resetPin live) ∧ (∀ named, Instr.readStatus ≠ .clearCauses named) ∧
    Instr.readStatus ≠ .softReset ∧ Instr.readStatus ≠ .resetPin ∧
    exec .readStatus (setCause .mapMismatch live) = .next (after .readStatus (setCause .mapMismatch live)) ∧
    hasCause (setCause .mapMismatch live) .mapMismatch = true :=
  ⟨rfl, rfl, rfl, nofun, nofun, nofun, rfl, by decide⟩

theorem witness_CauseMask : (setCause .linkUp live).resetLow = false ∧ hasCause (setCause .linkUp live) .linkUp = true := by decide

theorem witness_InterruptOutput :
    live.resetLow = false ∧ exec .softReset live = .next (after .softReset live) ∧
    exec .resetPin live = .next (after .resetPin live) ∧ irqAsserted { setCause .linkUp live with mask := 0#16 } = true :=
  ⟨rfl, rfl, rfl, by decide⟩

theorem witness_MemoryChangesOnlyAtCompletion :
    Instr.arbiterGrant ≠ .downstreamCompletion ∧ Instr.arbiterGrant ≠ .resetPin ∧
    exec .arbiterGrant (asking activeUp false) = .next (after .arbiterGrant (asking activeUp false)) ∧
    exec .resetPin { live with port := some { owner := .upstream, access := hostWrite } } =
      .next (after .resetPin { live with port := some { owner := .upstream, access := hostWrite } }) :=
  ⟨nofun, nofun, rfl, rfl⟩

theorem witness_StatusRead :
    activeUp.resetLow = false ∧ (activeUp.role = .active ∨ activeUp.role = .handingOver) ∧
    (holding activeFull .stall).upstream = .held hostWrite 2 .stall ∧
    (holding (handing .pending) .handover).upstream = .held hostWrite 2 .handover := by decide

theorem witness_StateReads : activeFull.resetLow = false ∧ activeFull.journal.length = 64 := by decide

theorem witness_WindowReads :
    live.resetLow = false ∧ ({ activeUp with resync := .reading (some walk) 15 } : State).resync.walk = some walk ∧
    walk.window = 2 ∧ (∀ p, activeUp.resync.walk = some p → p.window ≠ 2) ∧ 7 < (8#8 : Byte).toNat :=
  ⟨rfl, rfl, rfl, nofun, by decide⟩

theorem witness_StatisticsRead : live.resetLow = false ∧ 8 < (9#8 : Byte).toNat ∧ 1 < (2#8 : Byte).toNat := by decide

theorem witness_Identification : live.resetLow = false := rfl

theorem witness_ParameterWrites :
    live.resetLow = false ∧ live.link.state = .offline ∧ activeUp.link.state ≠ .offline ∧
    (1 ≤ (32#8 : Byte).toNat ∧ (32#8 : Byte).toNat ≤ 32 ∧ (15#8 : Byte).toNat ≤ 15) ∧
    (1 ≤ (1023#16 : BitVec 16).toNat ∧ (1023#16 : BitVec 16).toNat ≤ 1023) := by decide

theorem witness_OwningWindow :
    w2.isMatch 0x40000 = true ∧ w2.isMatch 0x4FFFF = true ∧ w2.isMatch 0x50000 = false ∧ w2.trackOf 0x4FFFF = 63 ∧
    (63 < 64 ∧ 3 < 4) := by decide

theorem witness_SyncStateTable :
    activeUp.windows[0].mode = .off ∧ standbyUpPart.windows[2].mode = .mirror ∧ standbyUpPart.role = .standby ∧
    activeUp.windows[2].mode = .mirror ∧ activeUp.role = .active ∧ activeUp.link.state = .up ∧
    activeUp.maps[2] = 0#64 ∧ (∀ e ∈ activeUp.journal, ∀ l d, e.body ≠ .fill 2 l d) ∧
    (∀ p, activeUp.resync.walk = some p → p.window ≠ 2) ∧
    ({ activeUp with maps := activeUp.maps.set 2 1#64 } : State).maps[2] ≠ 0#64 ∧
    ((part .active .idle).link.state ≠ .up ∧ (part .active .idle).link.state ≠ .recovery) :=
  ⟨rfl, rfl, rfl, rfl, rfl, rfl, rfl, nofun, nofun, by decide, by decide⟩

theorem witness_WriteWindow :
    activeUp.resetLow = false ∧
    ¬((0#8 : Byte).toNat ≤ 7 ∧ (1#8 : Byte).toNat ≤ 12 ∧ (1#8 : Byte).toNat ≤ 1 ∧ (0#8 : Byte).toNat ≤ 2 ∧
      (0x001000#24 : ByteAddr).toNat % (4096 * 2 ^ (1#8 : Byte).toNat) = 0) ∧
    w2.base.toNat % 2 ^ (12 + w2.sizeExp.val) = 0 ∧
    (activeUp.windows[2].mode = .mirror ∧ ({ w2 with base := 0#24 } : Window).base ≠ activeUp.windows[2].base) ∧
    (({ w2 with mode := .off } : Window).mode ≠ (handing .pending).windows[2].mode ∧ (handing .pending).role = .handingOver) ∧
    ¬(activeUp.windows[2].mode = .mirror ∧
      (({ w2 with mode := .off } : Window).base ≠ activeUp.windows[2].base ∨
        ({ w2 with mode := .off } : Window).sizeExp ≠ activeUp.windows[2].sizeExp)) ∧
    ¬(({ w2 with mode := .off } : Window).mode ≠ activeUp.windows[2].mode ∧ activeUp.role = .handingOver) ∧
    activeUp.windows[2].policy ≠ .diverge ∧ (holding activeUp .stall).upstream = .held hostWrite 2 .stall ∧
    4 * hostWrite.addr.toNat - 4 * hostWrite.addr.toNat % 2 ^ (12 + w2.sizeExp.val) = w2.base.toNat ∧
    (activeUp.windows[2].mode = w2.mode ∧ activeUp.windows[2].policy = w2.policy) ∧ activeUp.windows[0].mode = .off := by
  decide

theorem witness_MarkWindowCommand :
    activeUp.resetLow = false ∧ 7 < (8#8 : Byte).toNat ∧ 63 < (64#8 : Byte).toNat ∧ (4#8 : Byte).toNat < (5#8 : Byte).toNat ∧
    ((0#8 : Byte).toNat ≤ (63#8 : Byte).toNat ∧ (63#8 : Byte).toNat ≤ 63) ∧ standbyUpPart.role = .standby ∧
    (handing .pending).role = .handingOver ∧ activeUp.role = .active ∧ activeUp.windows[0].mode = .off ∧
    activeUp.windows[2].mode = .mirror := by decide

theorem witness_EventEnd : Cause.mapMismatch ≠ .windowInSync ∧ Cause.mapMismatch ≠ .windowDiverged := by decide

theorem witness_ResyncAtEventEnd :
    let marked : State := { activeUp with maps := activeUp.maps.set 2 (BitVec.twoPow 64 63) }
    let waiting (r : Bool) : State := { activeUp with resync := .waiting walk r }
    (marked.resync = .idle ∧ marked.role = .active ∧ marked.link.state = .up ∧ marked.maps[2].getLsbD 63 = true ∧
      (∀ v : WindowId, v < 2 → marked.maps[v] = 0#64) ∧ ∀ u < 63, marked.maps[2].getLsbD u = false) ∧
    (standbyUpPart.resync = .idle ∧ standbyUpPart.role ≠ .active ∧ (∀ w : WindowId, activeUp.maps[w] = 0#64)) ∧
    ((waiting true).resync = .waiting walk true ∧ (waiting false).resync = .waiting walk false ∧
      (part .active .recovery).link.state ≠ .up ∧ freeEntries live ≤ freeEntries (waiting true) ∧
      (waiting true).pathParams.reserve.toNat < freeEntries (waiting true)) ∧
    ({ activeUp with resync := .reading none 15 } : State).resync = .reading none 15 := by decide

theorem witness_Presentation :
    live.resetLow = false ∧ live.upstream = .none ∧ (hostRead.kind = .read ∨ hostRead.lanes ≠ 0#4) ∧ hostWrite.kind = .write ∧
    ({ hostWrite with lanes := 0#4 } : Access).lanes = 0#4 ∧ (asking live false).upstream ≠ .none := by decide

theorem witness_ClassificationTable :
    ownerOfWord live hostWrite.addr = none ∧ ownerOfWord activeUp hostWrite.addr = some 2 ∧
    ownerOfWord (part .unassigned .offline) hostWrite.addr = some 2 ∧ (part .unassigned .offline).role = .unassigned ∧
    (handing .pending).role = .handingOver ∧ (part .fenced .idle).role = .fenced ∧ activeUp.role = .active ∧
    activeUp.link.state = .up ∧
    ({ activeUp with journal := [writeEntry 0x10C0#18 .pending] } : State).journal =
      [] ++ [{ body := .write 2 (BitVec.ofNat 18 (hostWrite.addr.toNat / 16)) [(20, 0x11#8)], state := .pending }] ∧
    (¬∃ older bytes, activeUp.journal = older ++
      [{ body := .write 2 (BitVec.ofNat 18 (hostWrite.addr.toNat / 16)) bytes, state := .pending }]) ∧
    activeUp.journal.length < 64 ∧ 64 ≤ activeFull.journal.length ∧ activeFull.windows[2].policy = .stall ∧
    ((part .active .joining).link.state ≠ .up ∧ (part .active .joining).link.state ≠ .recovery) :=
  ⟨by decide, by decide, by decide, rfl, rfl, rfl, rfl, rfl, by decide, by simp [activeUp, part, State.reset], by decide,
   by decide, rfl, by decide⟩

/-- A full journal whose youngest entry is for another line. -/
theorem witness_ClassificationTable_full :
    ¬∃ older bytes, activeFull.journal = older ++
      [{ body := .write 2 (BitVec.ofNat 18 (hostWrite.addr.toNat / 16)) bytes, state := .pending }] := by
  rintro ⟨older, bytes, h⟩
  have h1 := congrArg List.getLast? h
  rw [List.getLast?_append] at h1
  have h2 : activeFull.journal.getLast? = some (writeEntry 0x1030#18 .pending) := by decide
  rw [h2] at h1
  simp [writeEntry, hostWrite] at h1

theorem witness_GrantOfUpstreamAccess :
    (asking activeUp false).resetLow = false ∧ (asking activeUp false).port = none ∧
    (asking activeUp false).upstream = .requesting hostWrite false ∧ internalRequest (asking activeUp false) = none ∧
    (let s : State := asking { activeUp with resync := .waiting walk true, upstreamRun := 3 } false
     internalRequest s ≠ none ∧ s.upstreamRun < s.pathParams.fairness.toNat) ∧
    hostRead.kind = .read ∧ classify live hostWrite false = .pass ∧
    classify (asking activeUp false) hostWrite false = .capture 2 ∧
    classify { activeUp with journal := [writeEntry 0x10C0#18 .pending] } hostWrite false = .merge 2 ∧
    classify activeUp hostWrite true = .diverge 2 ∧ classify activeFull hostWrite false = .hold 2 .stall ∧
    classify (handing .pending) hostWrite false = .hold 2 .handover ∧
    classify standbyUpPart hostWrite false = .refuse 2 := by decide

theorem witness_GrantOfInternalRequest :
    let first : State := { activeUp with resync := .waiting walk true }
    let full : State := { first with journal := List.replicate 56 (writeEntry 0x1030#18 .pending) }
    let next : State := { activeUp with resync := .reading (some walk) 15, journal := [fillEntry .filling] }
    let apply : State :=
      { queued standbyUpPart [oneWrite] with standby.engine := .applying 5, upstreamRun := 4, upstream := .requesting hostRead false }
    (first.resetLow = false ∧ first.port = none ∧ (∀ a forced, first.upstream ≠ .requesting a forced) ∧
      internalRequest first = some (.firstRead walk) ∧ first.pathParams.reserve.toNat < 64 - first.journal.length) ∧
    (internalRequest full = some (.firstRead walk) ∧ 64 - full.journal.length ≤ full.pathParams.reserve.toNat) ∧
    internalRequest next = some (.nextRead 0x1000#18 15) ∧
    (internalRequest apply = some (.applyWord 0#8 5) ∧ apply.pathParams.fairness.toNat ≤ apply.upstreamRun ∧
      apply.standby.engine = .applying 5 ∧ apply.standby.queue = [record 0#8 oneWrite] ∧
      recordLine oneWrite = some 0x10C0#18) :=
  ⟨⟨rfl, rfl, nofun, by decide, by decide⟩, by decide, by decide, by decide⟩

theorem witness_BytesOfEntries :
    positionsRise 0 [(0, 1#8), (63, 2#8)] = true ∧ positionsRise 0 (accessBytes hostWrite) = true ∧
    5 ≠ hostWrite.addr.toNat % 16 + 1 ∧ Cells.get 20 (accessBytes hostWrite) = some 0x11#8 ∧
    (List.replicate 64 (0#8 : Byte)).length = 64 ∧ 15 < 16 := by decide

theorem witness_CompletedAccess :
    let s (a : Access) (o : PortOwner) : State := { live with upstream := .inProgress a, port := some { owner := o, access := a } }
    (s hostWrite .upstream).resetLow = false ∧
    (s hostWrite .upstream).port = some { owner := .upstream, access := hostWrite } ∧
    (s hostWrite .upstream).upstream = .inProgress hostWrite ∧ hostWrite.kind = .write ∧ hostRead.kind = .read ∧
    memoryCanonical (s hostWrite .upstream) = true ∧
    (s hostRead .dropped).port = some { owner := .dropped, access := hostRead } := by decide

theorem witness_InternalCompletions :
    let reading (n : Nat) : State :=
      { activeUp with
        port := some { owner := .resync, access := hostRead }, resync := .reading (some walk) n
        journal := [writeEntry 0x1030#18 .pending, fillEntry .filling, writeEntry 0x1031#18 .pending] }
    let applying : State :=
      { queued standbyUpPart [oneWrite] with
        standby.engine := .applying 5, port := some { owner := .apply, access := hostWrite } }
    ((reading 14).port = some { owner := .resync, access := hostRead } ∧ hostRead.kind = .read ∧
      (reading 14).resync = .reading (some walk) 14 ∧
      (reading 15).journal =
        [writeEntry 0x1030#18 .pending] ++ [{ body := .fill 2 0x1000#18 [], state := .filling }] ++
          [writeEntry 0x1031#18 .pending] ∧
      (∀ e ∈ [writeEntry 0x1030#18 .pending] ++ [writeEntry 0x1031#18 .pending], e.state ≠ .filling)) ∧
    (applying.resetLow = false ∧ applying.port = some { owner := .apply, access := hostWrite } ∧ hostWrite.kind = .write ∧
      applying.standby.engine = .applying 5 ∧ applying.standby.queue = [record 0#8 oneWrite] ∧
      memoryCanonical applying = true ∧ nextWord oneWrite 6 = none ∧
      nextWord (.write 0#18 [(0, 1#8), (63, 2#8)]) 1 = some 15) := by decide

theorem witness_HeldWrite :
    (holding activeFull .stall).resetLow = false ∧ (holding activeFull .stall).upstream = .held hostWrite 2 .stall ∧
    (holding activeFull .stall).stallTimer = some 100 ∧
    (holding (handing .pending) .handover).upstream = .held hostWrite 2 .handover ∧
    (∀ a w r, live.upstream ≠ .held a w r) ∧
    (∀ a w, (holding (handing .pending) .handover).upstream ≠ .held a w .stall) :=
  ⟨rfl, rfl, rfl, rfl, nofun, by simp [holding]⟩

theorem witness_RecordsAndAsks :
    let q (n : Nat) : State := queued standbyUpPart (List.replicate n oneWrite)
    (standbyUpPart.resetLow = false ∧ oneWrite.valid = true ∧ standbyUpPart.link.state = .up ∧ standbyUpPart.role ≠ .active ∧
      standbyUpPart.role ≠ .handingOver) ∧
    ((q 11).standby.queue.length = 11 ∧ (q 11).standby.holding = false ∧ 11#8 = (q 11).standby.receiveNext) ∧
    ((q 15).standby.queue.length = 15 ∧ (q 15).standby.queue ≠ []) ∧
    (16 ≤ (q 16).standby.queue.length ∧ 3#8 ≠ (q 16).standby.receiveNext ∧ (q 16).standby.resendException = false) ∧
    (standbyUpPart.standby.queue = [] ∧ standbyUpPart.standby.engine = .idle ∧ 0#8 = standbyUpPart.standby.receiveNext) ∧
    ((part .active .recovery).link.state = .recovery ∧ (part .active .recovery).role = .active ∧
      activeUp.keptSwap = none ∧ ({ activeUp with keptSwap := some 5#8 } : State).keptSwap = some 5#8) := by decide

theorem witness_RecordTaken :
    let s (r : Record) : State := queued standbyUpPart [r]
    (s oneWrite).resetLow = false ∧ (s oneWrite).standby.engine = .idle ∧
    (s oneWrite).standby.queue = [record 0#8 oneWrite] ∧ recordLine oneWrite = some 0x10C0#18 ∧
    owner (s oneWrite).windows (64 * (0x10C0#18 : LineNo).toNat) = some 2 ∧ nextWord oneWrite 0 = some 5 ∧
    owner (s oneWrite).windows (64 * (0x0FFF#18 : LineNo).toNat) = none ∧
    (s (.mark 1#8 2#8)).standby.queue = [record 0#8 (.mark 1#8 2#8)] ∧
    (queued (part .promoting .leaving) [.takeover]).role ≠ .standby ∧ (s .takeover).role = .standby ∧
    (s .takeover).link.state = .up ∧ (queued (part .standby .idle) [.takeover]).link.state ≠ .up := by decide

theorem witness_RecordCompletes :
    let s (l : LinkState) (n : Nat) : State :=
      { queued (part .standby l) (List.replicate n oneWrite) with standby.holding := decide (5 ≤ n) }
    ((s .up 5).standby.queue = record 0#8 oneWrite :: (s .up 5).standby.queue.tail ∧ (s .up 5).role = .standby ∧
      (s .up 5).standby.holding = true ∧ (s .up 5).standby.queue.tail.length = 4 ∧
      (s .up 5).standby.resendException = false) ∧
    ((s .up 1).standby.queue.tail = [] ∧ ¬((s .up 1).standby.holding = true ∧ (s .up 1).standby.queue.tail.length = 4)) ∧
    ((s .up 2).standby.queue.tail ≠ [] ∧ (s .up 2).standby.sinceReport < 3) ∧
    ((s .idle 1).link.state ≠ .up ∧ (s .idle 1).role = .standby ∧ (s .idle 1).standby.queue.tail = [] ∧
      (s .idle 1).link.deferredJoin = none) ∧
    ({ s .idle 1 with link.deferredJoin := some 9#8 } : State).link.deferredJoin = some 9#8 ∧
    (part .promoting .leaving).role = .promoting := by decide

theorem witness_LossProcedures :
    activeSent.role = .active ∧ standbyUpPart.role ≠ .active ∧ standbyUpPart.role ≠ .handingOver ∧
    standbyUpPart.resetLow = false ∧ standbyUpPart.link.state = .up ∧
    ({ standbyUpPart with standby.silenceTimer := some 600 } : State).standby.silenceTimer = some 600 ∧
    Cause.linkLost ≠ .windowDiverged ∧ Cause.linkLost ≠ .windowInSync ∧
    (markEntry 7#8 1 (.sent 1#8 1) ∈ activeSent.journal) ∧ syncState activeSent 2 = .inSync ∧
    hasCause (endAssociation .sequence none activeSent) .windowDiverged = true := by decide

theorem witness_HandoverAtLoss :
    (handing (.sent 0#8 1)).role = .handingOver ∧
    (∃ e ∈ (handing (.sent 0#8 1)).journal, e.body = .takeover ∧ ∃ q n, e.state = .sent q n) ∧
    (∀ e ∈ (handing .pending).journal, e.body = .takeover → ∀ q n, e.state ≠ .sent q n) ∧
    (holding (handing .pending) .handover).upstream = .held hostWrite 2 .handover ∧
    (let s : State := { activeSent with role := .handingOver }
     s.role = .handingOver ∧ syncState s 2 = .inSync ∧ writeEntry 0x1030#18 (.sent 0#8 1) ∈ s.journal ∧
     markEntry 7#8 1 (.sent 1#8 1) ∈ s.journal ∧ s.windows[2].isMatch (64 * 0x1030) = true ∧
     s.windows[2].trackOf (64 * 0x1030) < 64) :=
  ⟨rfl, ⟨takeoverEntry (.sent 0#8 1), by simp [handing], rfl, 0#8, 1, rfl⟩, by simp [handing, takeoverEntry], rfl, by decide⟩

theorem witness_FramesOfAssociation :
    live.resetLow = false ∧ oneWrite.valid = true ∧ activeUp.link.state = .up ∧ (part .active .recovery).link.state = .recovery ∧
    (part .active .leaving).link.state = .leaving ∧ (part .active .leaving).link.enable = true ∧
    ({ part .active .leaving with link.enable := false } : State).link.enable = false ∧
    (part .active .idle).link.state = .idle ∧ (part .active .joining).link.state = .joining ∧ live.link.state = .offline ∧
    Frame.closed ∈ ({ live with link.txQueue := [.closed] } : State).link.txQueue ∧ Frame.closed ∉ live.link.txQueue := by
  decide

theorem witness_JoinHandling :
    (part .standby .idle).resetLow = false ∧ (part .standby .idle).link.state = .idle ∧ (part .standby .idle).role = .standby ∧
    (part .standby .idle).standby.queue = [] ∧ (queued (part .standby .idle) [.takeover]).standby.queue ≠ [] ∧
    (part .active .idle).role = .active ∧ (part .fenced .idle).role = .fenced ∧ (part .promoting .idle).role = .promoting ∧
    (part .active .joining).link.state = .joining ∧ (part .active .recovery).link.state = .recovery ∧
    standbyUpPart.link.state = .up ∧ standbyUpPart.role = .standby ∧
    ({ standbyUpPart with link.acceptRepeat := true } : State).link.acceptRepeat = true ∧
    standbyUpPart.link.acceptRepeat = false ∧ (1#8 : Byte) ≠ standbyUpPart.link.session := by decide

theorem witness_JoinAnswers :
    (part .active .joining).resetLow = false ∧ (part .active .joining).link.state = .joining ∧
    (1#8 : Byte) ≠ (part .active .joining).link.session ∧ DenyReason.noRole ≠ .roleConflict ∧ activeUp.link.state = .up := by
  decide

theorem witness_LinkTimers :
    let joins : State := { part .active .idle with link.rejoinTimer := some 100 }
    let s (l : LinkState) (n : Nat) : State := { part .active l with link.replyTimer := some 10, link.retry := n }
    (joins.resetLow = false ∧ joins.link.rejoinTimer = some 100 ∧ joins.role = .active ∧ joins.link.enable = true ∧
      joins.link.state = .idle ∧ joins.link.joinSuspended = false) ∧
    ((s .joining 2).link.replyTimer = some 10 ∧ (s .joining 2).link.state = .joining ∧
      (s .joining 2).link.retry < (s .joining 2).linkParams.retries.toNat ∧
      (s .joining 3).linkParams.retries.toNat ≤ (s .joining 3).link.retry) ∧
    ((s .leaving 0).link.state = .leaving ∧ (s .leaving 0).link.enable = true) ∧ (s .up 0).link.state = .up ∧
    ((s .recovery 2).link.state = .recovery ∧ (s .recovery 2).link.retry < (s .recovery 2).linkParams.retries.toNat ∧
      (s .recovery 3).linkParams.retries.toNat ≤ (s .recovery 3).link.retry) ∧
    activeSent.link.quietTimer = .running 200 ∧ (∀ e ∈ activeUp.journal, ∀ q n, e.state ≠ .sent q n) ∧
    (∃ e ∈ activeSent.journal, ∃ q n, e.state = .sent q n) :=
  ⟨by decide, by decide, by decide, rfl, by decide, rfl, nofun,
   ⟨writeEntry 0x1030#18 (.sent 0#8 1), by simp [activeSent], 0#8, 1, rfl⟩⟩

theorem witness_LinkControl :
    live.resetLow = false ∧ live.link.state = .offline ∧ activeUp.link.state ≠ .offline ∧
    (part .active .leaving).link.state = .leaving ∧ (part .active .idle).link.state = .idle ∧
    (part .active .joining).link.state = .joining ∧ (part .active .recovery).link.state = .recovery ∧
    (0x03#8 : Byte) ≠ 0x01#8 ∧ (0x03#8 : Byte) ≠ 0x02#8 ∧ (0x00#8 : Byte) ≠ 0x01#8 := by decide

theorem witness_Transmitter :
    let busy : State := { activeUp with link.tx := some .ask, link.txQueue := [.closed] }
    live.link.tx = none ∧ live.link.txQueue = [] ∧ busy.link.tx = some .ask ∧ busy.resetLow = false ∧
    busy.link.txQueue = .closed :: [] ∧ activeUp.link.state ≠ .offline ∧ live.link.state = .offline := by decide

theorem witness_RecDecision :
    let again : State := { activeSent with link.cursor := 1#8 }
    let shut : State := { activeSent with linkParams.window := 3#8 }
    let filling : State := { activeUp with journal := [fillEntry .filling] }
    (activeSent.resetLow = false ∧ activeSent.link.state = .up ∧ activeSent.role = .active ∧
      activeSent.link.peerHold = false ∧ activeSent.link.tx = none ∧ activeSent.link.txQueue = []) ∧
    (again.link.cursor ≠ again.link.sendPoint ∧
      again.journal = again.journal.take 1 ++ [{ body := .mark 7#8 1, state := .sent again.link.cursor 1 }] ++
        again.journal.drop 2 ∧
      (∀ e ∈ again.journal.take 1 ++ again.journal.drop 2, ∀ k, e.state ≠ .sent again.link.cursor k)) ∧
    (activeSent.link.cursor = activeSent.link.sendPoint ∧
      activeSent.journal = activeSent.journal.take 3 ++ [writeEntry 0x1032#18 .pending] ++ [] ∧
      (∀ e ∈ activeSent.journal.take 3, ∃ q n, e.state = .sent q n) ∧
      sentEntries activeSent < activeSent.linkParams.window.toNat) ∧
    (filling.link.cursor = filling.link.sendPoint ∧ filling.journal = [] ++ [fillEntry .filling] ++ []) ∧
    (shut.linkParams.window.toNat ≤ sentEntries shut ∧ (∀ e ∈ activeUp.journal, ∃ q n, e.state = .sent q n)) ∧
    standbyUpPart.role ≠ .active ∧ standbyUpPart.role ≠ .handingOver :=
  ⟨by decide, ⟨by decide, by decide, by simp [activeSent, writeEntry, markEntry]⟩,
   ⟨by decide, by decide, by simp [activeSent, writeEntry, markEntry], by decide⟩, by decide,
   ⟨by decide, nofun⟩, by decide, by decide⟩

theorem witness_AckAndResend :
    activeSent.resetLow = false ∧ activeSent.link.state = .up ∧ (part .active .recovery).link.state = .recovery ∧
    standbyUpPart.role ≠ .active ∧ standbyUpPart.role ≠ .handingOver ∧ activeSent.role = .active ∧
    ((3#8 : Byte) - activeSent.link.ackPoint).toNat ≤ (activeSent.link.sendPoint - activeSent.link.ackPoint).toNat ∧
    ¬((4#8 : Byte) - activeSent.link.ackPoint).toNat ≤ (activeSent.link.sendPoint - activeSent.link.ackPoint).toNat ∧
    ((3#8 : Byte) - 1#8).toNat ≤ (activeSent.link.sendPoint - 1#8).toNat ∧
    coversTakeover (handing (.sent 0#8 1)) 1#8 = true ∧ coversTakeover (handing (.sent 0#8 1)) 0#8 = false := by
  decide

theorem witness_RemovalByAcknowledgement :
    sentInOrder activeSent.link.ackPoint activeSent.journal = true ∧ sentEntries activeSent ≤ 32 ∧
    ((3#8 : Byte) - activeSent.link.ackPoint).toNat ≤ sentEntries activeSent ∧
    (∃ e ∈ activeSent.journal, e.state.isBefore 0#8 3#8 = true ∧ ∃ tag, e.body = .mark tag 1) ∧
    (∀ e ∈ activeSent.journal, e.state.isBefore 0#8 3#8 = true → ∀ tag, e.body ≠ .mark tag 0) :=
  ⟨by decide, by decide, by decide,
   ⟨markEntry 7#8 1 (.sent 1#8 1), by simp [activeSent], by decide, 7#8, rfl⟩, by
    simp [activeSent, writeEntry, markEntry]⟩

theorem witness_SetRoleTable :
    live.resetLow = false ∧ 2 < (3#8 : Byte).toNat ∧ (2#8 : Byte).toNat ≤ 2 ∧ live.role = .unassigned ∧ activeUp.role = .active ∧
    standbyUpPart.role = .standby ∧ (part .fenced .idle).role = .fenced ∧ (part .promoting .idle).role = .promoting := by decide

theorem witness_ChangeOfRole :
    activeUp.role = .active ∧ Role.unassigned ≠ .active ∧ Role.unassigned ≠ .handingOver ∧ standbyUpPart.role ≠ .active ∧
    standbyUpPart.role ≠ .handingOver ∧ (handing .pending).role = .handingOver ∧ live.link.deferredJoin = none ∧
    ({ part .standby .idle with link.deferredJoin := some 9#8 } : State).link.deferredJoin = some 9#8 := by decide

theorem witness_RoleAssignments :
    live.resetLow = false ∧ live.role = .unassigned ∧ (part .fenced .idle).role = .fenced ∧ activeUp.role = .active ∧
    standbyUpPart.role = .standby ∧ activeUp.link.state = .up ∧ (part .active .joining).link.state = .joining ∧
    (part .standby .idle).link.state = .idle := by decide

theorem witness_Promotion :
    live.resetLow = false ∧ 1 < (2#8 : Byte).toNat ∧ (1#8 : Byte).toNat ≤ 1 ∧ activeUp.role = .active ∧
    (part .fenced .idle).role = .fenced ∧ standbyUpPart.role = .standby ∧ standbyUpPart.link.state = .up ∧
    (part .standby .leaving).link.state ≠ .up ∧ standbyUpPart.standby.queue = [] ∧
    (queued standbyUpPart [oneWrite]).standby.queue ≠ [] := by decide

theorem witness_PlannedHandover :
    (activeUp.resetLow = false ∧ standbyUpPart.role ≠ .active ∧ activeUp.role = .active ∧ activeUp.link.state = .up ∧
      (part .active .recovery).link.state = .recovery ∧ (part .active .idle).link.state ≠ .up ∧
      (part .active .idle).link.state ≠ .recovery) ∧
    (∃ w : WindowId, ({ activeUp with maps := activeUp.maps.set 2 1#64 } : State).windows[w].mode = .mirror ∧
      syncState { activeUp with maps := activeUp.maps.set 2 1#64 } w ≠ .inSync) ∧
    (∀ w : WindowId, activeFull.windows[w].mode = .mirror → syncState activeFull w = .inSync) ∧
    ((holding activeFull .stall).upstream = .held hostWrite 2 .stall ∧
      (asking activeUp true).upstream = .requesting hostWrite true ∧
      ({ activeUp with resync := .reading none 3 } : State).resync = .reading none 3) ∧
    ((∀ a w, activeUp.upstream ≠ .held a w .stall) ∧ (∀ a, activeUp.upstream ≠ .requesting a true) ∧
      (∀ x n, activeUp.resync ≠ .reading x n) ∧ 64 ≤ activeFull.journal.length ∧ activeUp.journal.length < 64) ∧
    ((handing .pending).handoverTimer = some 500 ∧
      (handing .pending).journal = [] ++ [{ body := .takeover, state := .pending }] ∧
      (∀ older, (handing (.sent 0#8 1)).journal ≠ older ++ [{ body := .takeover, state := .pending }])) :=
  ⟨by decide, by decide, by decide, ⟨rfl, rfl, rfl⟩,
   ⟨nofun, nofun, nofun, by decide, by decide⟩, rfl, rfl, by
    intro older h
    have := congrArg List.getLast? h
    simp [handing, takeoverEntry] at this⟩

theorem witness_FencedIsLeftByCommandAlone :
    (part .fenced .idle).role = .fenced ∧
    exec (.setRole 0x02#8) (part .fenced .idle) = .next (after (.setRole 0x02#8) (part .fenced .idle)) ∧
    (after (.setRole 0x02#8) (part .fenced .idle)).role ≠ .fenced :=
  ⟨rfl, rfl, by decide⟩

theorem witness_CheckpointCommands :
    (standbyUpPart.resetLow = false ∧ standbyUpPart.role ≠ .active ∧ standbyUpPart.role ≠ .handingOver) ∧
    (activeUp.role = .active ∧ (part .active .idle).link.state ≠ .up ∧ (part .active .idle).link.state ≠ .recovery ∧
      activeUp.link.state = .up) ∧
    (∃ e ∈ (handing (.sent 0#8 1)).journal, e.body = .takeover ∧ ∃ q n, e.state = .sent q n) ∧
    (∀ e ∈ (handing .pending).journal, e.body = .takeover → ∀ q n, e.state ≠ .sent q n) ∧
    (64 ≤ activeFull.journal.length ∧
      ∀ i : SlotId,
        ({ activeUp with slots := Vector.replicate 4 { state := .done, tag := 0#8, taint := false } } : State).slots[i].state ≠ .free) ∧
    (activeSent.slots[(0 : SlotId)].state = .free ∧ (∀ j : SlotId, j < 0 → activeSent.slots[j].state ≠ .free) ∧
      activeSent.journal.length < 64) ∧
    ((handing .pending).journal = [] ++ [{ body := .takeover, state := .pending }] ∧
      (∀ older, activeUp.journal ≠ older ++ [{ body := .takeover, state := .pending }])) ∧
    (3 < (4#8 : Byte).toNat ∧ activeSent.slots[1].state = .opened ∧ activeSent.slots[0].state = .free) :=
  ⟨by decide, by decide, ⟨takeoverEntry (.sent 0#8 1), by simp [handing], rfl, 0#8, 1, rfl⟩,
   by simp [handing, takeoverEntry], by decide, by decide, ⟨rfl, by simp [activeUp, part, State.reset]⟩, by decide⟩

theorem witness_SoftReset : (holding activeFull .stall).resetLow = false := rfl

theorem witness_PinResets :
    activeUp.port = none ∧
    (let s : State := { activeUp with port := some { owner := .upstream, access := hostWrite } }
     s.port = some { owner := .upstream, access := hostWrite } ∧ memoryCanonical s = true) ∧
    0 / 4 ≠ hostWrite.addr.toNat ∧ ({ live with resetLow := true } : State).resetLow = true ∧
    Instr.softReset ≠ .resetPin ∧ (∀ csLow, Instr.softReset ≠ .resetRelease csLow) := by decide

theorem witness_FrameRoundTrip :
    (∀ q r, Frame.record 3#8 oneWrite = .record q r → r.valid = true) ∧ (∀ q r, Frame.ask = .record q r → r.valid = true) :=
  ⟨by rintro q r h; cases h; decide, nofun⟩

theorem witness_TransferRoundTrip :
    (Instr.markWindow 1#8 2#8 3#8).wellFormed = true ∧ transferBytes (.markWindow 1#8 2#8 3#8) = some (0x63#8 :: [1#8, 2#8, 3#8]) ∧
    (∀ c, Instr.markWindow 1#8 2#8 3#8 ≠ .unknown c) ∧ ([1#8, 2#8] : List Byte) <+: [1#8, 2#8, 3#8] ∧
    ([1#8, 2#8] : List Byte) ≠ [1#8, 2#8, 3#8] ∧ live.resetLow = false ∧ live.spi = .closed ∧
    Instr.readCauseMask.wellFormed = true ∧ transferBytes .readCauseMask = some [0x54#8] ∧ commandShape 0x54#8 = some (0, 2) ∧ maskShifted.resetLow = false ∧
    maskShifted.spi = .shifting { bytes := [0x54#8], bits := [], taken := true, clocked := true, sdo := false } ∧
    maskShifted.dataOut = [0xFF#8, 0xFF#8] ∧
    (csFall live).spi = .shifting { bytes := [], bits := [], taken := false, clocked := false, sdo := false } :=
  ⟨rfl, rfl, nofun, ⟨[3#8], rfl⟩, by decide, rfl, rfl, rfl, rfl, rfl, rfl, by decide, rfl, rfl⟩

theorem witness_LineReceiver :
    (∀ q r, Frame.closed = .record q r → r.valid = true) ∧ activeUp.resetLow = false ∧ activeUp.link.rxBody = none ∧
    activeUp.link.state ≠ .offline ∧ live.link.state = .offline :=
  ⟨nofun, rfl, rfl, by decide, rfl⟩

/-- The ACTIVE part with three SENT entries, a write held for an entry and an acknowledgement waiting to be taken. -/
def busy : State :=
  { activeSent with
    pending := [.ackReceived 2#8 false false false], maps := activeSent.maps.set 2 1#64
    resync := .waiting walk true, mem := [(0x43014, 0x5A#8)] }

theorem witness_step : step busy = .next (after (.ackReceived 2#8 false false false) { busy with pending := [] }) := rfl

theorem witness_JournalStaysHome : journalFits busy = true ∧ journalHome busy = true ∧ requestFits busy = true := by decide

theorem witness_SentEntriesStayInOrder :
    journalOrdered busy = true ∧ journalHome busy = true ∧ requestFits busy = true ∧ linkFitsRole busy = true ∧
    paramsInRange busy = true := by decide

theorem witness_ApplyQueueStaysSound :
    let s : State := { queued standbyUpPart (List.replicate 12 oneWrite) with standby.holding := true, pending := [.applyTakeRecord] }
    queueSound s = true ∧ holdFits s = true ∧ linkFitsRole s = true ∧
    step s = .next (after .applyTakeRecord { s with pending := [] }) :=
  ⟨by decide, by decide, by decide, rfl⟩

theorem witness_TracksStayHome : mapsHome busy = true ∧ resyncHome busy = true := by decide

theorem witness_PortAndTimersStayMatched :
    let s : State := { holding busy .stall with port := some { owner := .resync, access := hostRead } }
    portMatches s = true ∧ stallMatches s = true ∧ rejoinMatches s = true ∧
    step s = .next (after (.ackReceived 2#8 false false false) { s with pending := [] }) :=
  ⟨by decide, by decide, by decide, rfl⟩

theorem witness_MemoryStaysCanonical : memoryCanonical busy = true := by decide

end Sys2Proof.Tests
end

/-! # The owning window and the sync state (R3, R4)

First what the windows' accessors and the inputs of the sync state say, one lemma for each; then the two statements. -/

namespace Sys2Proof.Machine

open Sys2Proof

/-! ## A window's range and its match (R1, R3) -/

theorem Window.size_eq (x : Window) : x.size = 4096 * 2 ^ x.sizeExp.val := by
  rw [Window.size, pow_add]
  norm_num

/-- A window is 64 tracks. -/
theorem Window.size_eq_tracks (x : Window) : x.size = 64 * 2 ^ (6 + x.sizeExp.val) := by
  rw [x.size_eq, pow_add]
  omega

theorem Window.isMatch_iff (x : Window) (addr : Nat) :
    x.isMatch addr = true ↔ x.mode = .mirror ∧ addr - addr % x.size = x.base.toNat := by
  have hclear : addr / x.size * x.size = addr - addr % x.size := by
    have := Nat.div_add_mod' addr x.size
    omega
  simp [Window.isMatch, Window.covers, hclear]

/-- A block whose size divides the window's lies wholly inside or wholly outside the window. -/
theorem Window.isMatch_block {x : Window} {m : Nat} (hm : m ∣ x.size) (block : Nat) {k : Nat} (hk : k < m) :
    x.isMatch (m * block + k) = x.isMatch (m * block) := by
  obtain ⟨q, hq⟩ := hm
  have hdiv : (m * block + k) / x.size = m * block / x.size := by
    rw [hq, ← Nat.div_div_eq_div_mul, ← Nat.div_div_eq_div_mul, Nat.mul_add_div (by omega), Nat.div_eq_of_lt hk,
      Nat.add_zero, Nat.mul_div_cancel_left _ (by omega)]
  rw [Window.isMatch, Window.isMatch, Window.covers, Window.covers, hdiv]

theorem Window.line_dvd_size (x : Window) : 64 ∣ x.size := ⟨_, x.size_eq_tracks⟩

theorem Window.word_dvd_size (x : Window) : 4 ∣ x.size := Nat.dvd_trans (by decide) x.line_dvd_size

/-- The distance of a matching address from the base is less than the size, which is 64 tracks. -/
theorem Window.trackOf_le {x : Window} {addr : Nat} (h : x.isMatch addr = true) : x.trackOf addr ≤ 63 := by
  obtain ⟨-, hbase⟩ := (x.isMatch_iff addr).1 h
  have hsize := x.size_eq_tracks
  have htrack : 0 < 2 ^ (6 + x.sizeExp.val) := Nat.two_pow_pos _
  have hlt : addr % x.size < x.size := Nat.mod_lt _ (by omega)
  have hle : addr % x.size ≤ addr := Nat.mod_le _ _
  have hoff : addr - x.base.toNat < 64 * 2 ^ (6 + x.sizeExp.val) := by omega
  rw [Window.trackOf, hsize, Nat.mul_div_cancel_left _ (by decide)]
  exact Nat.le_of_lt_succ (Nat.div_lt_of_lt_mul (by rwa [Nat.mul_comm]))

/-! ## The owner (R3) -/

theorem owner_eq_find? (ws : Vector Window 8) (addr : Nat) : owner ws addr = Fin.find? fun i => ws[i].isMatch addr :=
  Fin.find?_eq_find?_finRange.symm

theorem owner_eq_some_iff (ws : Vector Window 8) (addr : Nat) (w : WindowId) :
    owner ws addr = some w ↔ ws[w].isMatch addr = true ∧ ∀ v : WindowId, v < w → ws[v].isMatch addr = false := by
  rw [owner_eq_find?, Fin.find?_eq_some_iff]

theorem owner_eq_none_iff (ws : Vector Window 8) (addr : Nat) :
    owner ws addr = none ↔ ∀ w : WindowId, ws[w].isMatch addr = false := by
  rw [owner_eq_find?, Fin.find?_eq_none_iff]

/-- Settles O14: each clause is a lemma above; a track is 4096 · 2^k / 64 bytes because a window is 2^(12 + k). -/
theorem owningWindow : Obligations.OwningWindow := by
  refine ⟨Window.isMatch_iff, owner_eq_some_iff, owner_eq_none_iff, fun _ _ => rfl, ?line, ?word, ?track⟩
  case line => exact fun x line k hk => Window.isMatch_block x.line_dvd_size line hk
  case word => exact fun x word k hk => Window.isMatch_block x.word_dvd_size word hk
  case track =>
    intro x addr h
    exact ⟨by rw [Window.trackOf, x.size_eq], Window.trackOf_le h⟩

/-! ## The inputs of the sync state (R4) -/

theorem Role.activeSide_iff (r : Role) : r.activeSide = true ↔ r = .active ∨ r = .handingOver := by
  cases r <;> simp [Role.activeSide]

theorem Role.activeSide_eq_false_iff (r : Role) :
    r.activeSide = false ↔ r = .unassigned ∨ r = .standby ∨ r = .promoting ∨ r = .fenced := by
  cases r <;> simp [Role.activeSide]

theorem LinkState.associated_iff (l : LinkState) : l.associated = true ↔ l = .up ∨ l = .recovery := by
  cases l <;> simp [LinkState.associated]

theorem Body.isFillOf_eq_false_iff (w : WindowId) (b : Body) : b.isFillOf w = false ↔ ∀ l d, b ≠ .fill w l d := by
  cases b <;> simp [Body.isFillOf]

theorem hasFill_eq_false_iff (s : State) (w : WindowId) :
    hasFill s w = false ↔ ∀ e ∈ s.journal, ∀ l d, e.body ≠ .fill w l d := by
  simp [hasFill, ← Body.isFillOf_eq_false_iff]

theorem walkInside_eq_false_iff (s : State) (w : WindowId) :
    walkInside s w = false ↔ ∀ p, s.resync.walk = some p → p.window ≠ w := by
  unfold walkInside
  cases s.resync.walk <;> simp

/-! ## The rows of the sync state (R4) -/

theorem syncState_off {s : State} {w : WindowId} (hm : s.windows[w].mode = .off) : syncState s w = .off := by
  rw [syncState, if_pos hm]

theorem Window.mode_ne_off {x : Window} (hm : x.mode = .mirror) : ¬x.mode = .off := by
  rw [hm]
  nofun

theorem syncState_passive {s : State} {w : WindowId} (hm : s.windows[w].mode = .mirror) (hr : s.role.activeSide = false) :
    syncState s w = .passive := by
  rw [syncState, if_neg (Window.mode_ne_off hm), if_pos hr]

/-- A MIRROR window of the active side: IN_SYNC where nothing of it is still to be copied, else as the link stands. -/
theorem syncState_activeSide {s : State} {w : WindowId} (hm : s.windows[w].mode = .mirror) (hr : s.role.activeSide = true) :
    syncState s w =
      if s.maps[w] = 0#64 ∧ hasFill s w = false ∧ walkInside s w = false then .inSync
      else if s.link.state.associated then .resyncing else .diverged := by
  rw [syncState, if_neg (Window.mode_ne_off hm), if_neg (by simp [hr])]

/-- Settles O15, row by row: mode, then side of the role, then what is left to copy, then the link. -/
theorem syncStateTable : Obligations.SyncStateTable := by
  intro s w clean hclean
  rw [← hasFill_eq_false_iff, ← walkInside_eq_false_iff] at hclean
  refine ⟨syncState_off, fun hm hr => syncState_passive hm ((Role.activeSide_eq_false_iff _).2 hr), fun hm hr => ?_⟩
  rw [syncState_activeSide hm ((Role.activeSide_iff _).2 hr), ← LinkState.associated_iff, ← not_or,
    ← LinkState.associated_iff]
  refine ⟨?inSync, ?resyncing, ?diverged⟩
  case inSync => exact fun h => if_pos (hclean.1 h)
  case resyncing => exact fun h hl => by rw [if_neg (mt hclean.2 h), if_pos hl]
  case diverged => exact fun h hl => by rw [if_neg (mt hclean.2 h), if_neg hl]

end Sys2Proof.Machine

/-! # SET ROLE (R125)

First what an event's end and a change of role leave unchanged, up to the link enable flag; then the table of R125, as a relation of the
current role and the target code; then the statement. -/

namespace Sys2Proof.Machine

open Sys2Proof

/-! ## The end of an event leaves role and link enable flag (R52, R113) -/

@[simp] theorem noteSync_role (before s : State) : (noteSync before s).role = s.role :=
  (congrArg State.role (noteSync_frame before s) :)

@[simp] theorem noteSync_link (before s : State) : (noteSync before s).link = s.link :=
  (congrArg State.link (noteSync_frame before s) :)

@[simp] theorem settleRun_role (before s : State) : (settleRun before s).role = s.role :=
  (congrArg State.role (settleRun_frame before s) :)

@[simp] theorem settleRun_link (before s : State) : (settleRun before s).link = s.link :=
  (congrArg State.link (settleRun_frame before s) :)

@[simp] theorem settleRequest_role (before s : State) : (settleRequest before s).role = s.role :=
  (congrArg State.role (settleRequest_frame before s) :)

@[simp] theorem settleRequest_link (before s : State) : (settleRequest before s).link = s.link :=
  (congrArg State.link (settleRequest_frame before s) :)

@[simp] theorem startTrack_role (s : State) : (startTrack s).role = s.role :=
  (congrArg State.role (startTrack_frame s) :)

@[simp] theorem startTrack_link (s : State) : (startTrack s).link = s.link :=
  (congrArg State.link (startTrack_frame s) :)

@[simp] theorem settleRejoin_role (s : State) : (settleRejoin s).role = s.role := rfl

@[simp] theorem settleRejoin_link_enable (s : State) : (settleRejoin s).link.enable = s.link.enable := rfl

@[simp] theorem settle_role (before s : State) : (settle before s).role = s.role := by simp [settle]

@[simp] theorem settle_link_enable (before s : State) : (settle before s).link.enable = s.link.enable := by
  simp [settle]

/-! ## A change of role leaves the link enable flag (R124) -/

@[simp] theorem sendFrame_link_enable (f : Frame) (s : State) : (sendFrame f s).link.enable = s.link.enable := by
  obtain ⟨-, -, h⟩ | ⟨-, h⟩ := sendFrame_spec f s <;> rw [h]

@[simp] theorem answerDeferred_link_enable (s : State) : (answerDeferred s).link.enable = s.link.enable := by
  unfold answerDeferred
  split <;> simp [denyConflict]

@[simp] theorem resyncStop_link (s : State) : (resyncStop s).link = s.link := (congrArg State.link (resyncStop_frame s) :)

@[simp] theorem stopOnLeavingActive_link (new : Role) (s : State) : (stopOnLeavingActive new s).link = s.link := by
  unfold stopOnLeavingActive
  split <;> simp

@[simp] theorem emptyOnLeavingSide_link (new : Role) (s : State) : (emptyOnLeavingSide new s).link = s.link := by
  unfold emptyOnLeavingSide
  split <;> simp

@[simp] theorem changeRole_link_enable (new : Role) (s : State) : (changeRole new s).link.enable = s.link.enable := by
  simp [changeRole]

@[simp] theorem becomeActiveMarked_link_enable (s : State) : (becomeActiveMarked s).link.enable = s.link.enable := by
  simp [becomeActiveMarked]

/-! ## The end of an association leaves the link enable flag (R61 to R65) -/

@[simp] theorem enterLinkState_link_enable (x : LinkState) (s : State) :
    (enterLinkState x s).link.enable = s.link.enable := by
  cases x <;> simp [enterLinkState]

@[simp] theorem leaveLink_link_enable (reason : PartReason) (s : State) :
    (leaveLink reason s).link.enable = s.link.enable := by
  simp [leaveLink]

@[simp] theorem faultHeld_link (s : State) : (faultHeld s).link = s.link := (congrArg State.link (faultHeld_frame s) :)

@[simp] theorem flush_link (s : State) : (flush s).link = s.link := (congrArg State.link (flush_frame s) :)

@[simp] theorem decideHandover_link_enable (sent : Bool) (s : State) :
    (decideHandover sent s).link.enable = s.link.enable := by
  unfold decideHandover
  (repeat' split) <;> simp

@[simp] theorem endAssociation_link_enable (reason : LossReason) (peer : Option PartReason) (s : State) :
    (endAssociation reason peer s).link.enable = s.link.enable := by
  unfold endAssociation
  split
  · simp [activeLoss]
  · simp [standbyLoss]

@[simp] theorem leaveAssociation_link_enable (reason : PartReason) (s : State) :
    (leaveAssociation reason s).link.enable = s.link.enable := by
  simp [leaveAssociation]

/-! ## A withdrawn role (R127) -/

@[simp] theorem dropAccess_role (o : PortOwner) (s : State) : (dropAccess o s).role = s.role :=
  (congrArg State.role (dropAccess_frame o s) :)

@[simp] theorem dropAccess_link (o : PortOwner) (s : State) : (dropAccess o s).link = s.link :=
  (congrArg State.link (dropAccess_frame o s) :)

@[simp] theorem discardQueue_role (s : State) : (discardQueue s).role = s.role := by simp [discardQueue]

@[simp] theorem discardQueue_link (s : State) : (discardQueue s).link = s.link := by simp [discardQueue]

@[simp] theorem withdrawRole_role (s : State) : (withdrawRole s).role = .unassigned := by
  unfold withdrawRole
  (repeat' split) <;> simp

@[simp] theorem withdrawRole_link_enable (s : State) : (withdrawRole s).link.enable = s.link.enable := by
  unfold withdrawRole
  (repeat' split) <;> simp

/-! ## The table (R125) -/

@[simp] theorem accept_role (code : Byte) (s : State) : (accept code s).role = s.role := answer_role ..

@[simp] theorem accept_link (code : Byte) (s : State) : (accept code s).link = s.link := answer_link ..

theorem exec_setRole (target : Byte) {s : State} (h : s.resetLow = false) :
    exec (.setRole target) s = .next (setRole target s) :=
  whenLive_high (setRole target) s h

/-- The codes of the targets: UNASSIGNED, ACTIVE and STANDBY. -/
theorem target_cases {target : Byte} (h : target.toNat ≤ 2) : target = 0x00#8 ∨ target = 0x01#8 ∨ target = 0x02#8 := by
  bv_omega

theorem targetOf_eq_none {target : Byte} (h : 2 < target.toNat) : targetOf target = none := by
  have hne (b : Byte) (hb : b.toNat ≤ 2) : target ≠ b := by
    rintro rfl
    omega
  rw [targetOf, if_neg (hne 0x00#8 (by decide)), if_neg (hne 0x01#8 (by decide)), if_neg (hne 0x02#8 (by decide))]

theorem setRole_undefined {target : Byte} (h : 2 < target.toNat) (s : State) :
    setRole target s = refuse 0x70#8 .badParam s := by
  rw [setRole, targetOf_eq_none h]

/-- The role a defined target code names. -/
def targetRole (target : Byte) : Role :=
  if target = 0x00#8 then .unassigned else if target = 0x01#8 then .active else .standby

/-- The combinations of current role and target code that the table marks OK. -/
def RoleTableOk (current : Role) (target : Byte) : Prop :=
  (current = .unassigned ∧ target ≠ 0x00#8) ∨ (current = .active ∧ target = 0x00#8) ∨
    (current = .standby ∧ target = 0x00#8) ∨ (current = .fenced ∧ target ≠ 0x01#8)

/-- What an accepted SET ROLE makes of the part before the event ends, target by target (R126, R127). -/
theorem setRole_accepted {target : Byte} {s : State} (hcode : target.toNat ≤ 2) (hok : RoleTableOk s.role target) :
    ∃ r, setRole target s = accept 0x70#8 (settle s r) ∧ r.role = targetRole target ∧ r.link.enable = s.link.enable := by
  obtain rfl | rfl | rfl := target_cases hcode
  · -- to UNASSIGNED
    have hrole : (s.role = .active ∨ s.role = .standby) ∨ s.role = .fenced := by
      simpa [RoleTableOk, or_assoc] using hok
    obtain hserving | h := hrole
    · have hset : setRole 0x00#8 s = accept 0x70#8 (settle s (withdrawRole s)) := by
        obtain h | h := hserving <;> simp [setRole, targetOf, h]
      exact ⟨withdrawRole s, hset, withdrawRole_role s, withdrawRole_link_enable s⟩
    · exact ⟨changeRole .unassigned s, by simp [setRole, targetOf, h], changeRole_role _ s, changeRole_link_enable _ s⟩
  · -- to ACTIVE
    have h : s.role = .unassigned := by simpa [RoleTableOk] using hok
    exact ⟨becomeActiveMarked s, by simp [setRole, targetOf, h], becomeActiveMarked_role s,
      becomeActiveMarked_link_enable s⟩
  · -- to STANDBY
    have hrole : s.role = .unassigned ∨ s.role = .fenced := by simpa [RoleTableOk] using hok
    have hset : setRole 0x02#8 s = accept 0x70#8 (settle s (changeRole .standby s)) := by
      obtain h | h := hrole <;> simp [setRole, targetOf, h]
    exact ⟨changeRole .standby s, hset, changeRole_role _ s, changeRole_link_enable _ s⟩

/-- Row by row, the targets the table marks WRONG_ROLE. -/
theorem setRole_wrongRole {target : Byte} {s : State} (hcode : target.toNat ≤ 2) (hok : ¬RoleTableOk s.role target) :
    setRole target s = refuse 0x70#8 .wrongRole s := by
  have hdefined := target_cases hcode
  cases h : s.role with
  | unassigned =>
    obtain rfl : target = 0x00#8 := by simpa [RoleTableOk, h] using hok
    simp [setRole, targetOf, h]
  | active | standby =>
    have hne : target ≠ 0x00#8 := by simpa [RoleTableOk, h] using hok
    obtain rfl | rfl := hdefined.resolve_left hne <;> simp [setRole, targetOf, h]
  | promoting | handingOver => obtain rfl | rfl | rfl := hdefined <;> simp [setRole, targetOf, h]
  | fenced =>
    obtain rfl : target = 0x01#8 := by simpa [RoleTableOk, h] using hok
    simp [setRole, targetOf, h]

/-- Settles O42: an undefined code, a combination marked OK and one marked WRONG_ROLE are a lemma each; role and link enable flag of an
accepted command outlast the end of the event. -/
theorem setRoleTable : Obligations.SetRoleTable := by
  intro target s hlive
  rw [exec_setRole target hlive]
  refine ⟨fun hcode => ?undefined, fun hcode => ⟨fun hok => ?accepted, fun hok => ?refused⟩⟩
  case undefined => exact congrArg Host.Outcome.next (setRole_undefined hcode s)
  case accepted =>
    obtain ⟨r, hset, hrole, henable⟩ := setRole_accepted hcode hok
    refine ⟨_, congrArg Host.Outcome.next hset, answer_lastResult _ _ _ _ _, ?role, ?enable⟩
    case role => rw [accept_role, settle_role, hrole, targetRole]
    case enable => rw [accept_link, settle_link_enable, henable]
  case refused => exact congrArg Host.Outcome.next (setRole_wrongRole hcode hok)

end Sys2Proof.Machine

/-! # The cause set, the mask and IRQ# (R167 to R169); identification (R173)

First what each operation of the model makes of the cause set: most leave it as it is, the others only add to it.  From these follows, command
by command, that no event but CLEAR CAUSES and the resets makes a cause absent; then the mask and IRQ#, with the statement each serves. -/

namespace Sys2Proof.Machine

open Sys2Proof

/-! ## Operations that leave the cause set as it is -/

@[simp] theorem representHeld_causes (s : State) : (representHeld s).causes = s.causes :=
  (congrArg State.causes (representHeld_frame s) :)

@[simp] theorem representStalled_causes (s : State) : (representStalled s).causes = s.causes :=
  (congrArg State.causes (representStalled_frame s) :)

@[simp] theorem sendFrame_causes (f : Frame) (s : State) : (sendFrame f s).causes = s.causes :=
  (congrArg State.causes (sendFrame_frame f s) :)

@[simp] theorem sendClosed_causes (s : State) : (sendClosed s).causes = s.causes :=
  (congrArg State.causes (sendClosed_frame s) :)

@[simp] theorem heard_causes (s : State) : (heard s).causes = s.causes := (congrArg State.causes (heard_frame s) :)

@[simp] theorem heardOther_causes (s : State) : (heardOther s).causes = s.causes :=
  (congrArg State.causes (heardOther_frame s) :)

@[simp] theorem enterLinkState_causes (x : LinkState) (s : State) : (enterLinkState x s).causes = s.causes :=
  (congrArg State.causes (enterLinkState_frame x s) :)

@[simp] theorem leaveLink_causes (reason : PartReason) (s : State) : (leaveLink reason s).causes = s.causes := by
  simp [leaveLink]

@[simp] theorem endLeaving_causes (s : State) : (endLeaving s).causes = s.causes := by simp [endLeaving]

@[simp] theorem sendAsk_causes (s : State) : (sendAsk s).causes = s.causes := by simp [sendAsk]

@[simp] theorem enterRecovery_causes (s : State) : (enterRecovery s).causes = s.causes := by simp [enterRecovery]

@[simp] theorem dropAccess_causes (o : PortOwner) (s : State) : (dropAccess o s).causes = s.causes :=
  (congrArg State.causes (dropAccess_frame o s) :)

@[simp] theorem resyncStop_causes (s : State) : (resyncStop s).causes = s.causes :=
  (congrArg State.causes (resyncStop_frame s) :)

@[simp] theorem abandonWalk_causes (w : WindowId) (s : State) : (abandonWalk w s).causes = s.causes :=
  (congrArg State.causes (abandonWalk_frame w s) :)

@[simp] theorem flushLine_causes (w : WindowId) (line : LineNo) (s : State) : (flushLine w line s).causes = s.causes :=
  (congrArg State.causes (flushLine_frame w line s) :)

@[simp] theorem settleRejoin_causes (s : State) : (settleRejoin s).causes = s.causes := rfl

@[simp] theorem startTrack_causes (s : State) : (startTrack s).causes = s.causes :=
  (congrArg State.causes (startTrack_frame s) :)

@[simp] theorem settleRequest_causes (before s : State) : (settleRequest before s).causes = s.causes :=
  (congrArg State.causes (settleRequest_frame before s) :)

@[simp] theorem settleRun_causes (before s : State) : (settleRun before s).causes = s.causes :=
  (congrArg State.causes (settleRun_frame before s) :)

@[simp] theorem stopOnLeavingActive_causes (new : Role) (s : State) : (stopOnLeavingActive new s).causes = s.causes := by
  unfold stopOnLeavingActive
  split <;> simp

@[simp] theorem emptyOnLeavingSide_causes (new : Role) (s : State) : (emptyOnLeavingSide new s).causes = s.causes := by
  unfold emptyOnLeavingSide
  split <;> simp

@[simp] theorem sendAck_causes (final : Bool) (s : State) : (sendAck final s).causes = s.causes := by simp [sendAck]

@[simp] theorem sendResend_causes (s : State) : (sendResend s).causes = s.causes := by simp [sendResend]

@[simp] theorem reportCompletion_causes (leavesHold : Bool) (s : State) :
    (reportCompletion leavesHold s).causes = s.causes := by
  simp [reportCompletion, apply_ite State.causes]

/-! ### The word bus (R151 to R156) -/

@[simp] theorem present_causes (a : Access) (s : State) : (present a s).causes = s.causes := by
  unfold present
  (repeat' split) <;> rfl

@[simp] theorem grantInternal_causes (r : InternalRequest) (s : State) : (grantInternal r s).causes = s.causes := by
  unfold grantInternal
  (repeat' split) <;> rfl

@[simp] theorem completeUpstream_causes (s : State) : (completeUpstream s).causes = s.causes := by
  unfold completeUpstream
  split <;> rfl

@[simp] theorem completeRead_causes (word : WordData) (s : State) : (completeRead word s).causes = s.causes := by
  unfold completeRead
  split
  · split
    · rfl
    · cases h : fillingLine s <;> simp [countLineCopied]
  · rfl
  · rfl

/-! ### The transmitter (R49, R69) -/

@[simp] theorem retransmit_causes (s : State) : (retransmit s).causes = s.causes := by
  unfold retransmit
  split <;> rfl

@[simp] theorem transmitFirst_causes (s : State) : (transmitFirst s).causes = s.causes := by
  unfold transmitFirst
  split
  · dsimp only [transmit]
    (repeat' split) <;> simp
  · rfl

@[simp] theorem decideRec_causes (s : State) : (decideRec s).causes = s.causes := by
  unfold decideRec
  (repeat' split) <;> simp

/-! ### Received frames and reports -/

@[simp] theorem discardFrame_causes (s : State) : (discardFrame s).causes = s.causes := by
  unfold discardFrame
  split <;> rfl

@[simp] theorem discardRecord_causes (s : State) : (discardRecord s).causes = s.causes := by
  unfold discardRecord
  split <;> simp

@[simp] theorem receiveAsk_causes (s : State) : (receiveAsk s).causes = s.causes := by
  unfold receiveAsk
  split
  · simp
  · simp
  · dsimp only
    split
    · split <;> simp
    · simp
  · simp
  · rfl
  · rfl

@[simp] theorem replyAfterAck_causes (advanced : Bool) (s : State) : (replyAfterAck advanced s).causes = s.causes := by
  unfold replyAfterAck
  (repeat' split) <;> simp

/-! ### The management port -/

@[simp] theorem accept_causes (code : Byte) (s : State) : (accept code s).causes = s.causes := rfl

@[simp] theorem refuse_causes (code : Byte) (r : Result) (s : State) : (refuse code r s).causes = s.causes := rfl

@[simp] theorem readOut_causes (code : Byte) (data : List Byte) (s : State) : (readOut code data s).causes = s.causes := rfl

@[simp] theorem refuseRead_causes (code : Byte) (n : Nat) (s : State) : (refuseRead code n s).causes = s.causes := rfl

@[simp] theorem changeWindow_causes (w : WindowId) (new : Window) (s : State) :
    (changeWindow w new s).causes = s.causes := by
  unfold changeWindow
  extract_lets old set tracked
  have htracked : tracked.causes = s.causes := by
    unfold tracked
    (repeat' split) <;> simp [set]
  split <;> simp [htracked]

@[simp] theorem discardQueue_causes (s : State) : (discardQueue s).causes = s.causes := by simp [discardQueue]

@[simp] theorem enableLink_causes (s : State) : (enableLink s).causes = s.causes := by
  simp [enableLink, apply_ite State.causes]

@[simp] theorem releaseCheckpoint_causes (slot : Byte) (s : State) : (releaseCheckpoint slot s).causes = s.causes := by
  unfold releaseCheckpoint
  (repeat' split) <;> rfl

@[simp] theorem readStatistics_causes (selector clear : Byte) (s : State) :
    (readStatistics selector clear s).causes = s.causes := by
  unfold readStatistics
  (repeat' split) <;> simp

@[simp] theorem releaseReset_causes (csLow : Bool) (s : State) : (releaseReset csLow s).causes = s.causes := by
  unfold releaseReset
  split <;> rfl

/-! ## Operations that add to the cause set

Each lemma speaks of one bit of the set: present before, it is present after. -/

section KeepsCause

variable {n : Nat} {s : State} (h : s.causes.getLsbD n = true)

include h

@[simp] theorem faultHeld_keepsCause : (faultHeld s).causes.getLsbD n = true := by
  unfold faultHeld
  split <;> simp [countRefused, h]

@[simp] theorem denyConflict_keepsCause (session : Byte) : (denyConflict session s).causes.getLsbD n = true := by
  simp [denyConflict, h]

/-! ### The end of an event (R5, R167) -/

@[simp] theorem noteMove_keepsCause (old new : SyncState) : (noteMove old new s).causes.getLsbD n = true := by
  unfold noteMove
  (repeat' split) <;> simp [h]

@[simp] theorem noteSync_keepsCause (before : State) : (noteSync before s).causes.getLsbD n = true :=
  List.foldlRecOn (motive := fun t : State => t.causes.getLsbD n = true) windowIds _ h
    fun _ ht w _ => noteMove_keepsCause ht (syncState before w) (syncState s w)

@[simp] theorem settle_keepsCause (before : State) : (settle before s).causes.getLsbD n = true := by
  simp [settle, h]

/-! ### Changes of role (R124, R130, R135) -/

@[simp] theorem answerDeferred_keepsCause : (answerDeferred s).causes.getLsbD n = true := by
  unfold answerDeferred
  split <;> simp [h]

@[simp] theorem changeRole_keepsCause (new : Role) : (changeRole new s).causes.getLsbD n = true := by
  simp [changeRole, h]

@[simp] theorem becomeActiveMarked_keepsCause : (becomeActiveMarked s).causes.getLsbD n = true := by
  simp [becomeActiveMarked, h]

@[simp] theorem completePromotion_keepsCause : (completePromotion s).causes.getLsbD n = true := by
  simp [completePromotion, h]

@[simp] theorem decideHandover_keepsCause (sent : Bool) : (decideHandover sent s).causes.getLsbD n = true := by
  unfold decideHandover
  (repeat' split) <;> simp [h]

@[simp] theorem completeHandover_keepsCause : (completeHandover s).causes.getLsbD n = true := by
  simp [completeHandover, h]

@[simp] theorem takeOver_keepsCause : (takeOver s).causes.getLsbD n = true := by
  unfold takeOver
  dsimp only
  split <;> simp [h]

/-! ### The end of an association (R41, R63, R64) -/

@[simp] theorem flushEntry_keepsCause (e : Entry) : (flushEntry s e).causes.getLsbD n = true := by
  unfold flushEntry
  split <;> simp [h]

@[simp] theorem flush_keepsCause : (flush s).causes.getLsbD n = true :=
  List.foldlRecOn (motive := fun t : State => t.causes.getLsbD n = true) s.journal flushEntry h
    fun _ ht e _ => flushEntry_keepsCause ht e

@[simp] theorem activeLoss_keepsCause (reason : LossReason) (peer : Option PartReason) :
    (activeLoss reason peer s).causes.getLsbD n = true := by
  unfold activeLoss
  dsimp only
  refine decideHandover_keepsCause (noteSync_keepsCause ?_ s) (takeoverSent s)
  simp [h]

@[simp] theorem standbyLoss_keepsCause (reason : LossReason) (peer : Option PartReason) :
    (standbyLoss reason peer s).causes.getLsbD n = true := by
  simp [standbyLoss, h]

@[simp] theorem endAssociation_keepsCause (reason : LossReason) (peer : Option PartReason) :
    (endAssociation reason peer s).causes.getLsbD n = true := by
  unfold endAssociation
  split <;> simp [h]

@[simp] theorem loseLink_keepsCause (reason : LossReason) (peer : Option PartReason) :
    (loseLink reason peer s).causes.getLsbD n = true := by
  simp [loseLink, h]

@[simp] theorem leaveAssociation_keepsCause (reason : PartReason) :
    (leaveAssociation reason s).causes.getLsbD n = true := by
  simp [leaveAssociation, h]

/-! ### The start of an association (R56, R59) -/

@[simp] theorem enterUpActive_keepsCause : (enterUpActive s).causes.getLsbD n = true := by
  simp [enterUpActive, h]

@[simp] theorem acceptJoin_keepsCause (session : Byte) : (acceptJoin session s).causes.getLsbD n = true := by
  simp [acceptJoin, h]

@[simp] theorem answerJoin_keepsCause (session : Byte) : (answerJoin session s).causes.getLsbD n = true := by
  unfold answerJoin
  (repeat' split) <;> simp [h]

/-! ### Records at the standby (R95 to R97) -/

@[simp] theorem queueEmptied_keepsCause : (queueEmptied s).causes.getLsbD n = true := by
  unfold queueEmptied
  (repeat' split) <;> simp [h]

@[simp] theorem completeRecord_keepsCause : (completeRecord s).causes.getLsbD n = true := by
  unfold completeRecord
  dsimp only
  (repeat' split) <;> simp [h]

@[simp] theorem takeRecord_keepsCause : (takeRecord s).causes.getLsbD n = true := by
  unfold takeRecord
  (repeat' split) <;> simp [h]

@[simp] theorem takeNext_keepsCause : (takeNext s).causes.getLsbD n = true := by
  unfold takeNext
  split <;> simp [h]

@[simp] theorem queueRecord_keepsCause (tseq : Byte) (r : Record) :
    (queueRecord tseq r s).causes.getLsbD n = true := by
  unfold queueRecord
  dsimp only
  (repeat' split) <;> simp [h]

/-! ### Removal by acknowledgement (R39, R144) -/

@[simp] theorem completeMark_keepsCause (e : Entry) : (completeMark s e).causes.getLsbD n = true := by
  unfold completeMark
  split <;> simp [h]

@[simp] theorem foldl_completeMark_keepsCause (es : List Entry) : (es.foldl completeMark s).causes.getLsbD n = true :=
  List.foldlRecOn (motive := fun t : State => t.causes.getLsbD n = true) es completeMark h
    fun _ ht e _ => completeMark_keepsCause ht e

@[simp] theorem removeAcknowledged_keepsCause (aseq : Byte) : (removeAcknowledged aseq s).causes.getLsbD n = true := by
  unfold removeAcknowledged
  dsimp only
  split <;> simp [h]

@[simp] theorem ackInUp_keepsCause (aseq : Byte) (hold : Bool) : (ackInUp aseq hold s).causes.getLsbD n = true := by
  simp [ackInUp, h]

@[simp] theorem ackEndsRecovery_keepsCause (aseq : Byte) (hold : Bool) :
    (ackEndsRecovery aseq hold s).causes.getLsbD n = true := by
  unfold ackEndsRecovery
  dsimp only
  split <;> simp [h]

@[simp] theorem takeAck_keepsCause (aseq : Byte) (final hold : Bool) :
    (takeAck aseq final hold s).causes.getLsbD n = true := by
  unfold takeAck
  (repeat' split) <;> simp [ackInRecovery, h]

@[simp] theorem takeResend_keepsCause (aseq rseq : Byte) (hold : Bool) :
    (takeResend aseq rseq hold s).causes.getLsbD n = true := by
  unfold takeResend
  dsimp only
  (repeat' split) <;> simp [h]

/-! ### The word bus (R6, R153, R156) -/

@[simp] theorem grantUpstream_keepsCause (a : Access) (forced : Bool) :
    (grantUpstream a forced s).causes.getLsbD n = true := by
  unfold grantUpstream
  (repeat' split) <;>
    simp [startUpstream, captureWrite, countCaptured, mergeWrite, countMerged, divergeWrite, countDiverged, holdWrite,
      countHeld, refuseWrite, countRefused, h]

theorem grant_keepsCause : (grant s).causes.getLsbD n = true := by
  unfold grant
  (repeat' split) <;> simp [h]

@[simp] theorem completeApplyWord_keepsCause : (completeApplyWord s).causes.getLsbD n = true := by
  unfold completeApplyWord
  (repeat' split) <;> simp [h]

theorem completeAccess_keepsCause : (completeAccess s).causes.getLsbD n = true := by
  unfold completeAccess
  split
  · exact h
  · dsimp only
    split <;> simp [h]

/-! ### Timers (R13, R52, R76, R78, R102, R134) -/

theorem expireStall_keepsCause : (expireStall s).causes.getLsbD n = true := by
  unfold expireStall
  split <;> simp [h]

theorem expireRejoin_keepsCause : (expireRejoin s).causes.getLsbD n = true := by
  unfold expireRejoin
  split <;> simp [h]

theorem expireReply_keepsCause : (expireReply s).causes.getLsbD n = true := by
  unfold expireReply
  (repeat' split) <;> simp [h]

theorem expireQuiet_keepsCause : (expireQuiet s).causes.getLsbD n = true := by
  unfold expireQuiet
  split
  · dsimp only
    split <;> simp [h]
  · exact h
  · exact h

theorem expireSilence_keepsCause : (expireSilence s).causes.getLsbD n = true := by
  unfold expireSilence
  split <;> simp [h]

theorem expireHandover_keepsCause : (expireHandover s).causes.getLsbD n = true := by
  unfold expireHandover
  dsimp only
  (repeat' split) <;> simp [h]

/-! ### Received frames (R51, R54, R56, R60, R71, R92) -/

theorem receiveJoin_keepsCause (session : Byte) : (receiveJoin session s).causes.getLsbD n = true := by
  unfold receiveJoin
  (repeat' split) <;> simp [h]

theorem receiveAccept_keepsCause (session : Byte) : (receiveAccept session s).causes.getLsbD n = true := by
  unfold receiveAccept
  (repeat' split) <;> simp [h]

@[simp] theorem deniedJoin_keepsCause (reason : DenyReason) : (deniedJoin reason s).causes.getLsbD n = true := by
  unfold deniedJoin
  split <;> simp [h]

theorem receiveDeny_keepsCause (session : Byte) (reason : DenyReason) :
    (receiveDeny session reason s).causes.getLsbD n = true := by
  unfold receiveDeny
  (repeat' split) <;> simp [h]

theorem receivePart_keepsCause (reason : PartReason) : (receivePart reason s).causes.getLsbD n = true := by
  unfold receivePart
  split <;> simp [h]

theorem receiveClosed_keepsCause : (receiveClosed s).causes.getLsbD n = true := by
  unfold receiveClosed
  split <;> simp [h]

theorem receiveRec_keepsCause (tseq : Byte) (r : Record) : (receiveRec tseq r s).causes.getLsbD n = true := by
  unfold receiveRec
  dsimp only
  (repeat' split) <;> simp [h]

theorem receiveAck_keepsCause (aseq : Byte) (final hold swap : Bool) :
    (receiveAck aseq final hold swap s).causes.getLsbD n = true := by
  unfold receiveAck
  (repeat' split) <;> simp [h]

theorem receiveResend_keepsCause (aseq rseq : Byte) (hold : Bool) :
    (receiveResend aseq rseq hold s).causes.getLsbD n = true := by
  unfold receiveResend
  (repeat' split) <;> simp [h]

/-! ### Commands of the management port (R2, R48, R122 to R131, R142) -/

theorem writeWindow_keepsCause (number mode : Byte) (base : ByteAddr) (sizeExp policy : Byte) :
    (writeWindow number mode base sizeExp policy s).causes.getLsbD n = true := by
  unfold writeWindow
  (repeat' split) <;> simp [h]

theorem markWindow_keepsCause (number first last : Byte) :
    (markWindow number first last s).causes.getLsbD n = true := by
  unfold markWindow
  (repeat' split) <;> simp [h]

@[simp] theorem withdrawRole_keepsCause : (withdrawRole s).causes.getLsbD n = true := by
  unfold withdrawRole
  dsimp only
  (repeat' split) <;> simp [h]

theorem setRole_keepsCause (target : Byte) : (setRole target s).causes.getLsbD n = true := by
  unfold setRole
  split <;> simp [h]

@[simp] theorem startPromotion_keepsCause : (startPromotion s).causes.getLsbD n = true := by
  unfold startPromotion
  extract_lets left promoting
  have hleft : left.causes.getLsbD n = true := by
    unfold left
    split <;> simp [h]
  have hpromoting : promoting.causes.getLsbD n = true := changeRole_keepsCause hleft .promoting
  split
  · exact completePromotion_keepsCause hpromoting
  · exact hpromoting

theorem promote_keepsCause (force : Byte) : (promote force s).causes.getLsbD n = true := by
  unfold promote
  (repeat' split) <;> simp [h]

@[simp] theorem startHandover_keepsCause : (startHandover s).causes.getLsbD n = true := by
  simp [startHandover, h]

theorem handover_keepsCause : (handover s).causes.getLsbD n = true := by
  unfold handover
  (repeat' split) <;> simp [h]

@[simp] theorem disableLink_keepsCause : (disableLink s).causes.getLsbD n = true := by
  unfold disableLink
  dsimp only
  split <;> simp [h]

theorem checkpoint_keepsCause (tag : Byte) : (checkpoint tag s).causes.getLsbD n = true := by
  unfold checkpoint
  (repeat' split) <;> simp [openCheckpoint, placeMark, h]

theorem writePathParameters_keepsCause (p : PathParams) : (writePathParameters p s).causes.getLsbD n = true := by
  unfold writePathParameters
  split <;> simp [h]

end KeepsCause

/-! ## What every command makes of the causes (R167) -/

/-- No outcome of the command makes a cause absent. -/
def KeepsCauses (command : State → Host.Outcome State Fault Refusal) : Prop :=
  ∀ s t, command s = .next t → ∀ n, s.causes.getLsbD n = true → t.causes.getLsbD n = true

theorem whenLive_keepsCauses {f : State → State}
    (hf : ∀ {n s}, s.causes.getLsbD n = true → (f s).causes.getLsbD n = true) : KeepsCauses (whenLive f) := by
  rintro s _ ⟨⟩ n h
  split
  · exact h
  · exact hf h

theorem whenLive_keepsCauses_of_eq {f : State → State} (hf : ∀ s, (f s).causes = s.causes) : KeepsCauses (whenLive f) :=
  whenLive_keepsCauses fun {_ s} h => (hf s).symm ▸ h

theorem whenLiveSettled_keepsCauses {f : State → State}
    (hf : ∀ {n s}, s.causes.getLsbD n = true → (f s).causes.getLsbD n = true) : KeepsCauses (whenLiveSettled f) :=
  whenLive_keepsCauses fun {_ s} h => settle_keepsCause (hf h) s

/-- No command but CLEAR CAUSES and the resets makes a cause absent: an event of the part keeps the causes because its operation and the end
of the event do; a read, a refusal or a written parameter leaves the set as it is. -/
theorem exec_keepsCauses {i : Instr} (hclear : ∀ named, i ≠ .clearCauses named) (hsoft : i ≠ .softReset)
    (hpin : i ≠ .resetPin) : KeepsCauses (exec i) := by
  cases i with
  | upstreamPresentation a => exact whenLive_keepsCauses_of_eq (present_causes a)
  | arbiterGrant => exact whenLiveSettled_keepsCauses grant_keepsCause
  | downstreamCompletion => exact whenLiveSettled_keepsCauses completeAccess_keepsCause
  | applyTakeRecord => exact whenLiveSettled_keepsCauses takeNext_keepsCause
  | stallLimitExpiry => exact whenLiveSettled_keepsCauses expireStall_keepsCause
  | rejoinDelayExpiry => exact whenLiveSettled_keepsCauses expireRejoin_keepsCause
  | replyTimerExpiry => exact whenLiveSettled_keepsCauses expireReply_keepsCause
  | quietTimerExpiry => exact whenLiveSettled_keepsCauses expireQuiet_keepsCause
  | silenceTimerExpiry => exact whenLiveSettled_keepsCauses expireSilence_keepsCause
  | handoverTimerExpiry => exact whenLiveSettled_keepsCauses expireHandover_keepsCause
  | recDecision => exact whenLive_keepsCauses_of_eq decideRec_causes
  | frameTransmissionEnd => exact whenLive_keepsCauses_of_eq fun _ => rfl
  | frameDiscard how => exact whenLive_keepsCauses_of_eq discardFrame_causes
  | joinReceived session => exact whenLiveSettled_keepsCauses fun h => receiveJoin_keepsCause h session
  | acceptReceived session => exact whenLiveSettled_keepsCauses fun h => receiveAccept_keepsCause h session
  | denyReceived session reason => exact whenLiveSettled_keepsCauses fun h => receiveDeny_keepsCause h session reason
  | partReceived reason => exact whenLiveSettled_keepsCauses fun h => receivePart_keepsCause h reason
  | closedReceived => exact whenLiveSettled_keepsCauses receiveClosed_keepsCause
  | recReceived tseq r => exact whenLiveSettled_keepsCauses fun h => receiveRec_keepsCause h tseq r
  | ackReceived aseq final hold swap =>
    exact whenLiveSettled_keepsCauses fun h => receiveAck_keepsCause h aseq final hold swap
  | resendReceived aseq rseq hold => exact whenLiveSettled_keepsCauses fun h => receiveResend_keepsCause h aseq rseq hold
  | askReceived => exact whenLiveSettled_keepsCauses fun {_ s} h => (receiveAsk_causes s).symm ▸ h
  | readStatus | readCauses | readCauseMask | readLinkParameters | readLinkState | readCheckpoints
  | readJournalSummary | readPathParameters | readIdentification =>
    exact whenLive_keepsCauses_of_eq fun _ => readOut_causes ..
  | clearCauses named => exact absurd rfl (hclear named)
  | writeCauseMask newMask => exact whenLive_keepsCauses_of_eq fun _ => accept_causes ..
  | readWindow number | readTrackMap number =>
    refine whenLive_keepsCauses_of_eq fun s => ?_
    split <;> simp
  | writeWindow number mode base sizeExp policy =>
    exact whenLive_keepsCauses fun h => writeWindow_keepsCause h number mode base sizeExp policy
  | markWindow number first last => exact whenLive_keepsCauses fun h => markWindow_keepsCause h number first last
  | setRole target => exact whenLive_keepsCauses fun h => setRole_keepsCause h target
  | promote force => exact whenLive_keepsCauses fun h => promote_keepsCause h force
  | handover => exact whenLive_keepsCauses handover_keepsCause
  | linkControlEnable operation =>
    refine whenLive_keepsCauses fun h => ?_
    split <;> simp [h]
  | linkControlDisable operation =>
    refine whenLive_keepsCauses fun h => ?_
    split <;> simp [h]
  | writeLinkParameters window reply retries quiet rejoin =>
    refine whenLive_keepsCauses_of_eq fun s => ?_
    simp [apply_ite State.causes]
  | checkpoint tag => exact whenLive_keepsCauses fun h => checkpoint_keepsCause h tag
  | releaseCheckpoint slot => exact whenLive_keepsCauses_of_eq (releaseCheckpoint_causes slot)
  | readStatistics selector clear => exact whenLive_keepsCauses_of_eq (readStatistics_causes selector clear)
  | writePathParameters stall fairness reserve handoverTime =>
    exact whenLive_keepsCauses fun h => writePathParameters_keepsCause h _
  | softReset => exact absurd rfl hsoft
  | framing code => exact whenLive_keepsCauses_of_eq fun _ => refuse_causes ..
  | unknown code => exact whenLive_keepsCauses_of_eq fun _ => refuse_causes ..
  | resetPin => exact absurd rfl hpin
  | resetRelease csLow =>
    rintro s _ ⟨⟩ n h
    rwa [releaseReset_causes]

theorem exec_softReset {s : State} (h : s.resetLow = false) : exec .softReset s = .next (accept 0xF0#8 (softReset s)) :=
  whenLive_high (fun s => accept 0xF0#8 (softReset s)) s h

theorem exec_clearCauses (named : CauseSet) {s : State} (h : s.resetLow = false) :
    exec (.clearCauses named) s = .next (accept 0x52#8 { s with causes := s.causes &&& ~~~named }) :=
  whenLive_high (fun s => accept 0x52#8 { s with causes := s.causes &&& ~~~named }) s h

theorem exec_readCauses {s : State} (h : s.resetLow = false) :
    exec .readCauses s = .next (readOut 0x51#8 (bytesOf16 s.causes) s) :=
  whenLive_high _ s h

theorem hasCause_setCause (c d : Cause) (s : State) : hasCause (setCause c s) d = (hasCause s d || decide (d = c)) := by
  rw [hasCause, setCause_causes, BitVec.getLsbD_or, Cause.getLsbD_bit, hasCause]

theorem getLsbD_causes_clear (m named : CauseSet) (d : Cause) :
    (m &&& ~~~named).getLsbD d.position = (m.getLsbD d.position && !named.getLsbD d.position) := by
  simp [d.position_lt]

/-- Settles O4: what sets, clears and reads a cause is an equation each, both resets write the empty set, and every other command keeps
every bit. -/
theorem causesAreSticky : Obligations.CausesAreSticky := by
  refine ⟨hasCause_setCause, ?clear, fun _ hlive => exec_readCauses hlive, ?soft, ?pin, ?sticky⟩
  case clear =>
    intro named s hlive
    exact ⟨s.causes &&& ~~~named, exec_clearCauses named hlive, getLsbD_causes_clear s.causes named⟩
  case soft =>
    intro s t hlive ht
    cases (exec_softReset hlive).symm.trans ht
    rfl
  case pin =>
    rintro s _ ⟨⟩
    rfl
  case sticky =>
    intro i s t hclear hsoft hpin ht d hd
    exact exec_keepsCauses hclear hsoft hpin s t ht d.position hd

/-! ## The mask (R168) -/

theorem exec_writeCauseMask (m : CauseSet) {s : State} (h : s.resetLow = false) :
    exec (.writeCauseMask m) s = .next (accept 0x53#8 { s with mask := m }) :=
  whenLive_high (fun s => accept 0x53#8 { s with mask := m }) s h

theorem exec_readCauseMask {s : State} (h : s.resetLow = false) :
    exec .readCauseMask s = .next (readOut 0x54#8 (bytesOf16 s.mask) s) :=
  whenLive_high _ s h

theorem softReset_mask (s : State) : (softReset s).mask = s.mask := (congrArg State.mask (representHeld_frame s) :)

theorem irqAsserted_of_resetLow {s : State} (h : s.resetLow = true) : irqAsserted s = false := by simp [irqAsserted, h]

theorem irqAsserted_of_no_cause {s : State} (h : s.causes = 0#16) : irqAsserted s = false := by simp [irqAsserted, h]

/-- Settles O5: every command concerned is an equation on cause set and mask, and RESET# leaves the mask all ones. -/
theorem causeMask : Obligations.CauseMask := by
  refine ⟨fun m _ hlive => exec_writeCauseMask m hlive, fun _ hlive => exec_readCauseMask hlive, ?hidesNothing, ?stays, ?pin,
    ?soft⟩
  case hidesNothing => exact fun m s hlive => ⟨_, exec_readCauses (s := { s with mask := m }) hlive, rfl⟩
  case stays =>
    intro m named c s hlive
    exact ⟨by simp [hasCause_setCause], _, exec_clearCauses named (s := { s with mask := m }) hlive, rfl⟩
  case pin =>
    refine fun s => ⟨pinReset s, rfl, fun c => ?_, irqAsserted_of_resetLow rfl⟩
    exact (BitVec.getLsbD_allOnes (v := 16)).trans (decide_eq_true c.position_lt)
  case soft => exact fun s hlive => ⟨_, exec_softReset hlive, softReset_mask s⟩

/-! ## IRQ# (R169) -/

/-- Every bit of a set of causes is the bit of a cause. -/
theorem Cause.exists_position {n : Nat} (h : n < 16) : ∃ c : Cause, c.position = n := by
  interval_cases n
  exacts [⟨.linkUp, rfl⟩, ⟨.linkLost, rfl⟩, ⟨.joinDenied, rfl⟩, ⟨.roleConflict, rfl⟩, ⟨.windowDiverged, rfl⟩,
    ⟨.windowInSync, rfl⟩, ⟨.writeRefused, rfl⟩, ⟨.stallExpired, rfl⟩, ⟨.checkpointDone, rfl⟩, ⟨.checkpointFailed, rfl⟩,
    ⟨.handoverDone, rfl⟩, ⟨.handoverFailed, rfl⟩, ⟨.takenOver, rfl⟩, ⟨.promoted, rfl⟩, ⟨.fenced, rfl⟩, ⟨.mapMismatch, rfl⟩]

theorem causeSet_ne_zero_iff (m : CauseSet) : m ≠ 0#16 ↔ ∃ c : Cause, m.getLsbD c.position = true := by
  constructor
  · intro hne
    by_contra! hnone
    refine hne (BitVec.eq_of_getLsbD_eq fun n hn => ?_)
    obtain ⟨c, rfl⟩ := Cause.exists_position hn
    simpa using hnone c
  · rintro ⟨c, hc⟩ rfl
    simp at hc

theorem irqAsserted_iff (s : State) :
    irqAsserted s = true ↔ s.resetLow = false ∧ ∃ c : Cause, hasCause s c = true ∧ s.mask.getLsbD c.position = false := by
  have hunmasked (c : Cause) : (s.causes &&& ~~~s.mask).getLsbD c.position = true ↔
      hasCause s c = true ∧ s.mask.getLsbD c.position = false := by
    rw [getLsbD_causes_clear, hasCause, Bool.and_eq_true, Bool.not_eq_true']
  simp only [← hunmasked, ← causeSet_ne_zero_iff]
  simp [irqAsserted]

theorem exec_readStatus {s : State} (h : s.resetLow = false) :
    exec .readStatus s = .next (readOut 0x50#8 (statusBytes s) s) :=
  whenLive_high _ s h

theorem getLsbD_bitAt (b : Bool) (i n : Nat) : (bitAt b i).getLsbD n = (decide (n < 8) && decide (n = i) && b) := by
  rw [bitAt, BitVec.getLsbD_shiftLeft, BitVec.getLsbD_setWidth, BitVec.getLsbD_ofBool]
  obtain hlt | rfl | hgt := Nat.lt_trichotomy n i
  · simp [hlt, hlt.ne]
  · simp
  · simp [hgt.ne', Nat.sub_ne_zero_of_lt hgt]

/-- Settles O6: both resets leave nothing to assert IRQ# for, and bit 2 of READ STATUS byte 3 is the output itself, the fields beside it
having other bits. -/
theorem interruptOutput : Obligations.InterruptOutput := by
  refine ⟨irqAsserted_iff, ?soft, ?pin, ?status⟩
  case soft =>
    intro s t hlive ht
    cases (exec_softReset hlive).symm.trans ht
    exact irqAsserted_of_no_cause rfl
  case pin =>
    rintro s _ ⟨⟩
    exact irqAsserted_of_resetLow rfl
  case status =>
    refine fun s hlive => ⟨_, _, exec_readStatus hlive, rfl, ?_⟩
    simp [BitVec.getLsbD_or, getLsbD_bitAt, BitVec.getLsbD_shiftLeft, -BitVec.getLsbD_eq_getElem]

/-! ## Identification (R173) -/

/-- Settles O12: the data-out is the model's constant `identification`, whose name the theorem leaves to it. -/
theorem identificationConstants : Obligations.Identification := fun s hlive =>
  whenLive_high (readOut 0xE0#8 identification) s hlive

end Sys2Proof.Machine

/-! # What a command can do

Every invariant below is kept for one reason: a command either leaves all that the invariants read (a read, a refusal, an edge of RESET#
going up), or is an event of the part, or one of a handful of commands that end without `settle`.  The case analysis over the table is made
once, here; the invariants then speak of the events. -/

namespace Sys2Proof.Machine

open Sys2Proof

/-- `t` differs from `s` only where no invariant looks: the causes and the record of the last command, the statistics, the checkpoint slots,
the management port, the transmitter and the level of RESET#. -/
def DeskOnly (s t : State) : Prop :=
  t = { s with
    causes := t.causes, mask := t.mask, lastResult := t.lastResult, dataOut := t.dataOut, spi := t.spi, resetLow := t.resetLow
    slots := t.slots, windowStats := t.windowStats, linkStats := t.linkStats, link.tx := t.link.tx
    link.txQueue := t.link.txQueue }

/-- The events of the part, each as the state it leaves before it ends with `settle`, under the checks its command has passed. -/
inductive Event (s : State) : Instr → State → Prop
  | grant : Event s .arbiterGrant (grant s)
  | completion : Event s .downstreamCompletion (completeAccess s)
  | recordTaken : Event s .applyTakeRecord (takeNext s)
  | stallExpiry : Event s .stallLimitExpiry (expireStall s)
  | rejoinExpiry : Event s .rejoinDelayExpiry (expireRejoin s)
  | replyExpiry : Event s .replyTimerExpiry (expireReply s)
  | quietExpiry : Event s .quietTimerExpiry (expireQuiet s)
  | silenceExpiry : Event s .silenceTimerExpiry (expireSilence s)
  | handoverExpiry : Event s .handoverTimerExpiry (expireHandover s)
  | joinFrame (session : Byte) : Event s (.joinReceived session) (receiveJoin session s)
  | acceptFrame (session : Byte) : Event s (.acceptReceived session) (receiveAccept session s)
  | denyFrame (session : Byte) (reason : DenyReason) : Event s (.denyReceived session reason) (receiveDeny session reason s)
  | partFrame (reason : PartReason) : Event s (.partReceived reason) (receivePart reason s)
  | closedFrame : Event s .closedReceived (receiveClosed s)
  | recFrame (tseq : Byte) (r : Record) : Event s (.recReceived tseq r) (receiveRec tseq r s)
  | ackFrame (aseq : Byte) (final hold swap : Bool) :
      Event s (.ackReceived aseq final hold swap) (receiveAck aseq final hold swap s)
  | resendFrame (aseq rseq : Byte) (hold : Bool) : Event s (.resendReceived aseq rseq hold) (receiveResend aseq rseq hold s)
  | askFrame : Event s .askReceived (receiveAsk s)
  | windowWritten {number mode : Byte} {base : ByteAddr} {sizeExp policy : Byte} (w : WindowId) (new : Window)
      (hrange : s.windows[w].mode = .mirror → new.base = s.windows[w].base ∧ new.sizeExp = s.windows[w].sizeExp) :
      Event s (.writeWindow number mode base sizeExp policy) (changeWindow w new s)
  | rangeMarked {number first last : Byte} (w : WindowId) (range : TrackMap) (hrole : s.role = .active)
      (hmode : s.windows[w].mode = .mirror) :
      Event s (.markWindow number first last) { s with maps := s.maps.set w (s.maps[w] ||| range) }
  | activated {target : Byte} (hrole : s.role = .unassigned) : Event s (.setRole target) (becomeActiveMarked s)
  | stoodBy {target : Byte} (htarget : target = 0x02#8) (hrole : s.role = .unassigned ∨ s.role = .fenced) :
      Event s (.setRole target) (changeRole .standby s)
  | unfenced {target : Byte} (htarget : target = 0x00#8) (hrole : s.role = .fenced) :
      Event s (.setRole target) (changeRole .unassigned s)
  | withdrawn {target : Byte} (hrole : s.role = .active ∨ s.role = .standby) : Event s (.setRole target) (withdrawRole s)
  | promotedFenced {force : Byte} (hrole : s.role = .fenced) : Event s (.promote force) (completePromotion s)
  | promoted {force : Byte} (hrole : s.role = .standby) : Event s (.promote force) (startPromotion s)
  | handedOver (hrole : s.role = .active) (hup : s.link.state = .up) (hidle : handoverBusy s = false)
      (hfree : freeEntries s ≠ 0) : Event s .handover (startHandover s)
  | linkEnabled {operation : Byte} : Event s (.linkControlEnable operation) (enableLink s)
  | linkDisabled {operation : Byte} : Event s (.linkControlDisable operation) (disableLink s)
  | checkpointOpened {tag : Byte} (i : SlotId) (hrole : s.role.activeSide = true) (hlink : s.link.state.associated = true)
      (hfree : freeEntries s ≠ 0) : Event s (.checkpoint tag) (openCheckpoint i tag s)
  | pathWritten {stall : BitVec 16} {fairness reserve handoverTime : Byte} (p : PathParams) (hp : p.inRange = true) :
      Event s (.writePathParameters stall fairness reserve handoverTime) { s with pathParams := p }

/-- The commands that change what an invariant reads and end without `settle`. -/
inductive Unsettled (s : State) : Instr → State → Prop
  | presented (a : Access) : Unsettled s (.upstreamPresentation a) (present a s)
  | recDecided : Unsettled s .recDecision (decideRec s)
  | linkWritten {window reply retries quiet rejoin : Byte} (p : LinkParams) (hp : p.inRange = true) :
      Unsettled s (.writeLinkParameters window reply retries quiet rejoin) { s with linkParams := p }
  | softReset : Unsettled s .softReset (softReset s)
  | pinReset : Unsettled s .resetPin (pinReset s)

/-- What a command leaves: the state but for the desk, an event and its end, or a command without one. -/
inductive Effect (c : Instr) (s t : State) : Prop
  | desk (h : DeskOnly s t)
  | event {u : State} (he : Event s c u) (h : DeskOnly (settle s u) t)
  | unsettled {u : State} (hu : Unsettled s c u) (h : DeskOnly u t)

/-! ## From the commands to their effects -/

theorem DeskOnly.refl (s : State) : DeskOnly s s := rfl

theorem DeskOnly.answer (code : Byte) (r : Result) (slot : SlotId) (data : List Byte) (s : State) :
    DeskOnly s (answer code r slot data s) := rfl

/-- A command refused, or answered without an event. -/
theorem Effect.answered (c : Instr) (code : Byte) (r : Result) (slot : SlotId) (data : List Byte) (s : State) :
    Effect c s (answer code r slot data s) := .desk (.answer code r slot data s)

theorem releaseReset_deskOnly (csLow : Bool) (s : State) : DeskOnly s (releaseReset csLow s) := by
  unfold releaseReset
  split <;> rfl

theorem discardFrame_deskOnly (s : State) : DeskOnly s (discardFrame s) := by
  unfold discardFrame
  split <;> rfl

theorem releaseCheckpoint_deskOnly (slot : Byte) (s : State) : DeskOnly s (releaseCheckpoint slot s) := by
  unfold releaseCheckpoint
  (repeat' split) <;> rfl

theorem readStatistics_deskOnly (selector clear : Byte) (s : State) : DeskOnly s (readStatistics selector clear s) := by
  unfold readStatistics
  (repeat' split) <;> rfl

theorem WindowMode.eq_mirror {m : WindowMode} (h : m ≠ .off) : m = .mirror := by
  cases m
  · exact absurd rfl h
  · rfl

/-- An accepted command ends its event and leaves its record. -/
theorem Event.accepted {c : Instr} {s u : State} (h : Event s c u) (code : Byte) : Effect c s (accept code (settle s u)) :=
  .event h (.answer code .ok 0 [] _)

theorem writeWindow_effect (number mode : Byte) (base : ByteAddr) (sizeExp policy : Byte) (s : State) :
    Effect (.writeWindow number mode base sizeExp policy) s (writeWindow number mode base sizeExp policy s) := by
  unfold writeWindow
  split
  · rename_i w new _ _
    split
    · exact .answered ..
    · rename_i hkeeps
      split
      · exact .answered ..
      · exact (Event.windowWritten w new (by simpa using hkeeps)).accepted 0x61#8
  · exact .answered ..

theorem markWindow_effect (number first last : Byte) (s : State) : Effect (.markWindow number first last) s (markWindow number first last s) := by
  unfold markWindow
  split
  · rename_i w _
    split
    · exact .answered ..
    split
    · exact .answered ..
    split
    · exact .answered ..
    rename_i hrole
    split
    · exact .answered ..
    · rename_i hmode
      exact (Event.rangeMarked w _ (not_not.1 hrole) (WindowMode.eq_mirror hmode)).accepted 0x63#8
  · exact .answered ..

theorem targetOf_some {target : Byte} {r : Role} (h : targetOf target = some r) :
    (r = .unassigned ∧ target = 0x00#8) ∨ (r = .active ∧ target = 0x01#8) ∨ (r = .standby ∧ target = 0x02#8) := by
  unfold targetOf at h
  (repeat' split at h) <;> cases h <;> simp [*]

theorem setRole_effect (target : Byte) (s : State) : Effect (.setRole target) s (setRole target s) := by
  unfold setRole
  split
  next => exact .answered ..
  next hr => exact (Event.activated hr).accepted 0x70#8
  next ht hr => exact (Event.stoodBy (by simpa using targetOf_some ht) (.inl hr)).accepted 0x70#8
  next ht hr => exact (Event.stoodBy (by simpa using targetOf_some ht) (.inr hr)).accepted 0x70#8
  next hr => exact (Event.withdrawn (.inl hr)).accepted 0x70#8
  next hr => exact (Event.withdrawn (.inr hr)).accepted 0x70#8
  next ht hr => exact (Event.unfenced (by simpa using targetOf_some ht) hr).accepted 0x70#8
  next => exact .answered ..

theorem promote_effect (force : Byte) (s : State) : Effect (.promote force) s (promote force s) := by
  unfold promote
  split
  · exact .answered ..
  split
  next => exact .answered ..
  next => exact .answered ..
  next => exact .answered ..
  next => exact .answered ..
  next hr => exact (Event.promotedFenced hr).accepted 0x71#8
  next hr =>
    split
    · exact .answered ..
    · exact (Event.promoted hr).accepted 0x71#8

theorem handover_effect (s : State) : Effect .handover s (handover s) := by
  unfold handover
  split
  · exact .answered ..
  split
  · exact .answered ..
  split
  · exact .answered ..
  split
  · exact .answered ..
  split
  · exact .answered ..
  split
  · exact .answered ..
  rename_i hrole _ hup _ hbusy hfree
  exact (Event.handedOver (not_not.1 hrole) (not_not.1 hup) (Bool.eq_false_iff.2 hbusy) hfree).accepted 0x72#8

theorem checkpoint_effect (tag : Byte) (s : State) : Effect (.checkpoint tag) s (checkpoint tag s) := by
  unfold checkpoint
  split
  · exact .answered ..
  split
  · exact .answered ..
  split
  · exact .answered ..
  rename_i hrole hlink _
  split
  · exact .answered ..
  split
  · exact .answered ..
  rename_i i _ hfree
  exact .event (.checkpointOpened i (Bool.not_eq_false _ ▸ hrole) (Bool.not_eq_false _ ▸ hlink) hfree) (.answer ..)

theorem writePathParameters_effect (stall : BitVec 16) (fairness reserve handoverTime : Byte) (p : PathParams) (s : State) :
    Effect (.writePathParameters stall fairness reserve handoverTime) s (writePathParameters p s) := by
  unfold writePathParameters
  split
  next hp => exact (Event.pathWritten p hp).accepted 0x8A#8
  next => exact .answered ..

/-! ## The table -/

/-- Whatever the command answers is one of the effects. -/
def HasEffect (c : Instr) (command : State → Host.Outcome State Fault Refusal) : Prop :=
  ∀ s t, command s = .next t → Effect c s t

theorem whenLive_hasEffect {c : Instr} {f : State → State} (hf : ∀ s, Effect c s (f s)) : HasEffect c (whenLive f) := by
  rintro s _ ⟨⟩
  split
  · exact .desk (.refl s)
  · exact hf s

theorem whenLive_hasEffect_desk {c : Instr} {f : State → State} (hf : ∀ s, DeskOnly s (f s)) : HasEffect c (whenLive f) :=
  whenLive_hasEffect fun s => .desk (hf s)

theorem whenLiveSettled_hasEffect {c : Instr} {f : State → State} (hf : ∀ s, Event s c (f s)) :
    HasEffect c (whenLiveSettled f) :=
  whenLive_hasEffect fun s => .event (hf s) (.refl _)

/-- Every command of the table has one of the effects. -/
theorem exec_hasEffect (c : Instr) : HasEffect c (exec c) := by
  cases c with
  | upstreamPresentation a => exact whenLive_hasEffect fun _ => .unsettled (.presented a) rfl
  | arbiterGrant => exact whenLiveSettled_hasEffect fun _ => .grant
  | downstreamCompletion => exact whenLiveSettled_hasEffect fun _ => .completion
  | applyTakeRecord => exact whenLiveSettled_hasEffect fun _ => .recordTaken
  | stallLimitExpiry => exact whenLiveSettled_hasEffect fun _ => .stallExpiry
  | rejoinDelayExpiry => exact whenLiveSettled_hasEffect fun _ => .rejoinExpiry
  | replyTimerExpiry => exact whenLiveSettled_hasEffect fun _ => .replyExpiry
  | quietTimerExpiry => exact whenLiveSettled_hasEffect fun _ => .quietExpiry
  | silenceTimerExpiry => exact whenLiveSettled_hasEffect fun _ => .silenceExpiry
  | handoverTimerExpiry => exact whenLiveSettled_hasEffect fun _ => .handoverExpiry
  | recDecision => exact whenLive_hasEffect fun _ => .unsettled .recDecided rfl
  | frameTransmissionEnd => exact whenLive_hasEffect_desk fun _ => rfl
  | frameDiscard how => exact whenLive_hasEffect_desk discardFrame_deskOnly
  | joinReceived session => exact whenLiveSettled_hasEffect fun _ => .joinFrame session
  | acceptReceived session => exact whenLiveSettled_hasEffect fun _ => .acceptFrame session
  | denyReceived session reason => exact whenLiveSettled_hasEffect fun _ => .denyFrame session reason
  | partReceived reason => exact whenLiveSettled_hasEffect fun _ => .partFrame reason
  | closedReceived => exact whenLiveSettled_hasEffect fun _ => .closedFrame
  | recReceived tseq r => exact whenLiveSettled_hasEffect fun _ => .recFrame tseq r
  | ackReceived aseq final hold swap => exact whenLiveSettled_hasEffect fun _ => .ackFrame aseq final hold swap
  | resendReceived aseq rseq hold => exact whenLiveSettled_hasEffect fun _ => .resendFrame aseq rseq hold
  | askReceived => exact whenLiveSettled_hasEffect fun _ => .askFrame
  | readStatus | readCauses | readCauseMask | readLinkParameters | readLinkState | readCheckpoints | readJournalSummary
  | readPathParameters | readIdentification => exact whenLive_hasEffect_desk fun _ => rfl
  | clearCauses named | writeCauseMask newMask => exact whenLive_hasEffect_desk fun _ => rfl
  | readWindow number | readTrackMap number =>
    refine whenLive_hasEffect_desk fun s => ?_
    split <;> rfl
  | writeWindow number mode base sizeExp policy => exact whenLive_hasEffect (writeWindow_effect number mode base sizeExp policy)
  | markWindow number first last => exact whenLive_hasEffect (markWindow_effect number first last)
  | setRole target => exact whenLive_hasEffect (setRole_effect target)
  | promote force => exact whenLive_hasEffect (promote_effect force)
  | handover => exact whenLive_hasEffect handover_effect
  | linkControlEnable operation =>
    refine whenLive_hasEffect fun s => ?_
    split
    · exact Event.linkEnabled.accepted 0x74#8
    · exact .answered ..
  | linkControlDisable operation =>
    refine whenLive_hasEffect fun s => ?_
    split
    · exact Event.linkDisabled.accepted 0x74#8
    · exact .answered ..
  | writeLinkParameters window reply retries quiet rejoin =>
    refine whenLive_hasEffect fun s => ?_
    dsimp only
    split
    · exact .answered ..
    split
    next hp => exact .unsettled (.linkWritten _ hp) rfl
    next => exact .answered ..
  | checkpoint tag => exact whenLive_hasEffect (checkpoint_effect tag)
  | releaseCheckpoint slot => exact whenLive_hasEffect_desk (releaseCheckpoint_deskOnly slot)
  | readStatistics selector clear => exact whenLive_hasEffect_desk (readStatistics_deskOnly selector clear)
  | writePathParameters stall fairness reserve handoverTime => exact whenLive_hasEffect (writePathParameters_effect _ _ _ _ _)
  | softReset => exact whenLive_hasEffect fun _ => .unsettled .softReset rfl
  | framing code | unknown code => exact whenLive_hasEffect_desk fun _ => rfl
  | resetPin =>
    rintro s _ ⟨⟩
    exact .unsettled .pinReset rfl
  | resetRelease csLow =>
    rintro s _ ⟨⟩
    exact .desk (releaseReset_deskOnly csLow s)

/-- What every effect keeps, whatever commands wait, every step keeps. -/
theorem step_keeps {P : State → Prop} (hrest : ∀ s rest, P s → P { s with pending := rest })
    (heffect : ∀ {c s t}, Effect c s t → P s → P t) {s t : State} (h : step s = .next t) (hs : P s) : P t := by
  unfold step at h
  split at h
  · cases h
    exact hs
  next c rest _ => exact heffect (exec_hasEffect c _ t h) (hrest s rest hs)

end Sys2Proof.Machine

/-! # What every procedure keeps

`Routine s t` collects what the procedures of an event have in common: memory, the waiting commands, the windows and the parameters stay, and
the bus and the tracks stay as sound as they were.  One lemma for each procedure, in the order of the model; each is the chain of the procedures
it calls.  A field no clause reads may be written freely, so a record update over such fields needs no step of its own. -/

namespace Sys2Proof.Machine

open Sys2Proof

/-- The upstream access goes with the port and the stall limit timer with the held write (R11, R151, R154). -/
def BusFits (s : State) : Prop := portMatches s = true ∧ stallMatches s = true

/-- Marks and the resync walk lie in MIRROR windows of the active side (R108, R112). -/
def TracksHome (s : State) : Prop := mapsHome s = true ∧ resyncHome s = true

/-- What no procedure writes stays, and the bus and the tracks stay sound. -/
def Routine (s t : State) : Prop :=
  (t.mem = s.mem ∧ t.pending = s.pending ∧ t.windows = s.windows ∧ t.linkParams = s.linkParams ∧ t.pathParams = s.pathParams) ∧
  (BusFits s → BusFits t) ∧ (TracksHome s → TracksHome t)

theorem Routine.refl (s : State) : Routine s s := ⟨⟨rfl, rfl, rfl, rfl, rfl⟩, id, id⟩

theorem Routine.trans {s t u : State} (h : Routine s t) (h' : Routine t u) : Routine s u := by
  obtain ⟨⟨hm, hp, hw, hl, hpp⟩, hb, ht⟩ := h
  obtain ⟨⟨hm', hp', hw', hl', hpp'⟩, hb', ht'⟩ := h'
  exact ⟨⟨hm'.trans hm, hp'.trans hp, hw'.trans hw, hl'.trans hl, hpp'.trans hpp⟩, hb' ∘ hb, ht' ∘ ht⟩

/-- An operation with a frame that writes nothing a clause reads. -/
theorem Routine.of_frame {s t x : State} (hframe : x = s) (h : Routine x t) : Routine s t := hframe ▸ h

/-- Fields that no clause reads may be written on top. -/
theorem Routine.elsewhere {s t u : State} (h : Routine s t)
    (hu : u = { t with
      ending := u.ending, journal := u.journal, link := u.link, standby := u.standby, handoverTimer := u.handoverTimer
      keptSwap := u.keptSwap, slots := u.slots, upstreamRun := u.upstreamRun, causes := u.causes, windowStats := u.windowStats
      linkStats := u.linkStats }) : Routine s u := by
  rw [hu]
  exact h

theorem setCause_routine (c : Cause) (s : State) : Routine s (setCause c s) := Routine.refl s

theorem startReply_routine (s : State) : Routine s (startReply s) := Routine.refl s

theorem stopReply_routine (s : State) : Routine s (stopReply s) := Routine.refl s

theorem zeroSequence_routine (s : State) : Routine s (zeroSequence s) := Routine.refl s

theorem startStandbySide_routine (acceptRepeat : Bool) (s : State) : Routine s (startStandbySide acceptRepeat s) := Routine.refl s

/-! ## The bus -/

theorem portMatches_iff (s : State) :
    portMatches s = true ↔ ((∃ a, s.upstream = .inProgress a) ↔ ∃ p, s.port = some p ∧ p.owner = .upstream) := by
  cases hu : s.upstream <;> cases hp : s.port <;> simp [portMatches, portOwnedBy, hu, hp]

theorem stallMatches_iff (s : State) :
    stallMatches s = true ↔ (s.stallTimer.isSome = true ↔ ∃ a w, s.upstream = .held a w .stall) := by
  cases hu : s.upstream with
  | held a w r => cases r <;> simp [stallMatches, hu]
  | none => simp [stallMatches, hu]
  | requesting a forced => simp [stallMatches, hu]
  | inProgress a => simp [stallMatches, hu]

/-- A held write leaves its slot for a request or for nothing, and its timer stops. -/
theorem BusFits.leaveSlot {s : State} (h : BusFits s) {a : Access} {w : WindowId} {r : HoldReason} (hs : s.upstream = .held a w r)
    {x : Upstream} (hx : x = .none ∨ ∃ b forced, x = .requesting b forced) :
    BusFits { s with upstream := x, stallTimer := none } := by
  have hport := (portMatches_iff s).1 h.1
  refine ⟨(portMatches_iff _).2 ?_, (stallMatches_iff _).2 ?_⟩
  · obtain rfl | ⟨b, forced, rfl⟩ := hx <;> simpa [hs] using hport
  · obtain rfl | ⟨b, forced, rfl⟩ := hx <;> simp

/-- With the port FREE and the access requesting, the access may take the port. -/
theorem BusFits.start {s : State} (h : BusFits s) {a : Access} {forced : Bool} (hs : s.upstream = .requesting a forced)
    (x : Access) : BusFits { s with upstream := .inProgress a, port := some { owner := .upstream, access := x } } := by
  have hstall := (stallMatches_iff s).1 h.2
  refine ⟨(portMatches_iff _).2 ?_, (stallMatches_iff _).2 ?_⟩
  · simp
  · simpa [hs] using hstall

/-- The port goes from hand to hand among the part's own requesters. -/
theorem BusFits.setPort {s : State} (h : BusFits s) {x : Option PortAccess} (hs : ∀ p, s.port = some p → p.owner ≠ .upstream)
    (hx : ∀ p, x = some p → p.owner ≠ .upstream) : BusFits { s with port := x } := by
  refine ⟨(portMatches_iff _).2 ?_, h.2⟩
  have hport := (portMatches_iff s).1 h.1
  have hno : ¬∃ a, s.upstream = .inProgress a := by
    rw [hport]
    rintro ⟨p, hp, ho⟩
    exact hs p hp ho
  refine iff_of_false hno ?_
  rintro ⟨p, hp, ho⟩
  exact hx p hp ho

/-! ## The tracks -/

theorem mapsHome_iff (s : State) :
    mapsHome s = true ↔ ∀ w : WindowId, s.maps[w] = 0#64 ∨ (s.windows[w].mode = .mirror ∧ s.role.activeSide = true) := by
  have hall (f : WindowId → Bool) : windowIds.all f = true ↔ ∀ w, f w = true := by
    simp [windowIds, Fin.forall_fin_succ]
  rw [mapsHome, hall]
  simp

theorem resyncHome_iff (s : State) :
    resyncHome s = true ↔ (s.resync = .idle ∨ s.role = .active) ∧
      ∀ p, s.resync.walk = some p →
        s.windows[p.window].mode = .mirror ∧ p.track < 64 ∧ p.offset < s.windows[p.window].trackLines := by
  cases h : s.resync.walk <;> simp [resyncHome, h, and_assoc]

/-- The tracks' soundness, field by field. -/
theorem tracksHome_iff (s : State) :
    TracksHome s ↔
      (∀ w : WindowId, s.maps[w] = 0#64 ∨ (s.windows[w].mode = .mirror ∧ s.role.activeSide = true)) ∧
      (s.resync = .idle ∨ s.role = .active) ∧
      ∀ p, s.resync.walk = some p →
        s.windows[p.window].mode = .mirror ∧ p.track < 64 ∧ p.offset < s.windows[p.window].trackLines := by
  rw [TracksHome, mapsHome_iff, resyncHome_iff]

/-- A map of a MIRROR window of the active side may be set to anything. -/
theorem TracksHome.setMap {s : State} (h : TracksHome s) {w : WindowId} (hm : s.windows[w].mode = .mirror)
    (hr : s.role.activeSide = true) (m : TrackMap) : TracksHome { s with maps := s.maps.set w m } := by
  rw [tracksHome_iff] at h ⊢
  obtain ⟨hmaps, hresync⟩ := h
  refine ⟨fun v => ?_, hresync⟩
  by_cases hv : v = w
  · subst hv
    exact .inr ⟨hm, hr⟩
  · have : w.val ≠ v.val := fun e => hv (Fin.ext e.symm)
    simpa [Vector.getElem_set, this] using hmaps v

/-- A window's map may be emptied. -/
theorem TracksHome.clearMap {s : State} (h : TracksHome s) (w : WindowId) : TracksHome { s with maps := s.maps.set w 0#64 } := by
  rw [tracksHome_iff] at h ⊢
  obtain ⟨hmaps, hresync⟩ := h
  refine ⟨fun v => ?_, hresync⟩
  by_cases hv : v = w
  · exact .inl (by simp [hv])
  · have : w.val ≠ v.val := fun e => hv (Fin.ext e.symm)
    simpa [Vector.getElem_set, this] using hmaps v

/-- The engine may go to any state whose walk is inside the walk it had. -/
theorem TracksHome.setResync {s : State} (h : TracksHome s) {x : Resync} (hrun : x = .idle ∨ s.role = .active)
    (hx : ∀ p, x.walk = some p → s.resync.walk = some p) : TracksHome { s with resync := x } := by
  rw [tracksHome_iff] at h ⊢
  obtain ⟨hmaps, -, hwalk⟩ := h
  exact ⟨hmaps, hrun, fun p hp => hwalk p (hx p hp)⟩

/-- What a new role asks of engine and maps. -/
theorem TracksHome.setRole {s : State} (h : TracksHome s) {new : Role} (hresync : s.resync = .idle ∨ new = .active)
    (hmaps : (∀ w : WindowId, s.maps[w] = 0#64) ∨ (s.role.activeSide = true → new.activeSide = true)) :
    TracksHome { s with role := new } := by
  rw [tracksHome_iff] at h ⊢
  obtain ⟨hmarks, -, hwalk⟩ := h
  refine ⟨fun w => ?_, hresync, hwalk⟩
  obtain hempty | hside := hmaps
  · exact .inl (hempty w)
  · exact (hmarks w).imp_right fun ⟨hm, hr⟩ => ⟨hm, hside hr⟩

/-! ## The held write, the transmitter and the link's states -/

theorem representHeld_routine (s : State) : Routine s (representHeld s) := by
  obtain ⟨a, w, r, hs, h⟩ | ⟨-, h⟩ := representHeld_spec s <;> rw [h]
  · exact ⟨⟨rfl, rfl, rfl, rfl, rfl⟩, fun hb => hb.leaveSlot hs (.inr ⟨a, false, rfl⟩), id⟩
  · exact .refl s

theorem representStalled_routine (s : State) : Routine s (representStalled s) := by
  unfold representStalled
  split
  next a w hs => exact ⟨⟨rfl, rfl, rfl, rfl, rfl⟩, fun hb => hb.leaveSlot hs (.inr ⟨a, false, rfl⟩), id⟩
  all_goals exact .refl s

theorem faultHeld_routine (s : State) : Routine s (faultHeld s) := by
  unfold faultHeld
  split
  next a w hs => exact ⟨⟨rfl, rfl, rfl, rfl, rfl⟩, fun hb => hb.leaveSlot hs (.inl rfl), id⟩
  all_goals exact .refl s

theorem sendFrame_routine (f : Frame) (s : State) : Routine s (sendFrame f s) :=
  .of_frame (sendFrame_frame f s) (Routine.refl (sendFrame f s))

theorem sendClosed_routine (s : State) : Routine s (sendClosed s) :=
  .of_frame (sendClosed_frame s) (Routine.refl (sendClosed s))

theorem denyConflict_routine (session : Byte) (s : State) : Routine s (denyConflict session s) :=
  .of_frame (denyConflict_frame session s) (Routine.refl (denyConflict session s))

theorem heard_routine (s : State) : Routine s (heard s) := .of_frame (heard_frame s) (Routine.refl (heard s))

theorem heardOther_routine (s : State) : Routine s (heardOther s) :=
  .of_frame (heardOther_frame s) (Routine.refl (heardOther s))

theorem enterLinkState_routine (x : LinkState) (s : State) : Routine s (enterLinkState x s) := by
  rw [enterLinkState_spec]
  split
  · exact .refl s
  split
  · exact representHeld_routine _
  · exact representHeld_routine _

theorem leaveLink_routine (reason : PartReason) (s : State) : Routine s (leaveLink reason s) :=
  ((sendFrame_routine _ s).trans (enterLinkState_routine .leaving _)).trans (startReply_routine _)

theorem endLeaving_routine (s : State) : Routine s (endLeaving s) :=
  (stopReply_routine s).trans (enterLinkState_routine _ _)

theorem sendAsk_routine (s : State) : Routine s (sendAsk s) := sendFrame_routine _ _

theorem enterRecovery_routine (s : State) : Routine s (enterRecovery s) :=
  (((enterLinkState_routine .recovery s).elsewhere rfl).trans (sendAsk_routine _)).trans (startReply_routine _)

/-! ## The resync engine and the end of an event -/

theorem dropAccess_routine {o : PortOwner} (ho : o ≠ .upstream) (s : State) : Routine s (dropAccess o s) := by
  unfold dropAccess
  split
  next p hp =>
    split
    next hown =>
      refine ⟨⟨rfl, rfl, rfl, rfl, rfl⟩, fun hb => hb.setPort ?_ ?_, id⟩
      · rintro q hq
        rw [hp] at hq
        cases hq
        exact hown ▸ ho
      · rintro _ ⟨⟩
        nofun
    next => exact .refl s
  next => exact .refl s

theorem Resync.walk_idle : Resync.walk .idle = none := rfl

/-- The engine of an ACTIVE part marks its track again and is IDLE. -/
theorem resyncStop_routine (s : State) : Routine s (resyncStop s) := by
  unfold resyncStop
  extract_lets marked
  have hmark : Routine s { marked with resync := .idle } := by
    unfold marked
    split
    next p hp =>
      refine ⟨⟨rfl, rfl, rfl, rfl, rfl⟩, id, fun ht => ?_⟩
      obtain ⟨-, hrun, hwalk⟩ := (tracksHome_iff s).1 ht
      have hactive : s.role.activeSide = true := by
        obtain hidle | hactive := hrun
        · rw [hidle] at hp
          nomatch hp
        · rw [hactive]
          rfl
      exact (ht.setMap (hwalk p hp).1 hactive _).setResync (.inl rfl) nofun
    next => exact ⟨⟨rfl, rfl, rfl, rfl, rfl⟩, id, fun ht => ht.setResync (.inl rfl) nofun⟩
  exact hmark.trans (dropAccess_routine (by decide) _)

@[simp] theorem resyncStop_resync (s : State) : (resyncStop s).resync = .idle := by
  unfold resyncStop
  exact (congrArg State.resync (dropAccess_frame .resync _) :)

@[simp] theorem resyncStop_role (s : State) : (resyncStop s).role = s.role := (congrArg State.role (resyncStop_frame s) :)

theorem noteSync_routine (before s : State) : Routine s (noteSync before s) :=
  .of_frame (noteSync_frame before s) (Routine.refl (noteSync before s))

theorem lowestTrack_lt {m : TrackMap} {t : Nat} (h : lowestTrack m = some t) : t < 64 :=
  BitVec.lt_of_getLsbD (lowestTrack_eq_some.1 h).1

/-- The window and the track the engine starts: the track is marked. -/
theorem firstMarked_some {maps : Vector TrackMap 8} {w : WindowId} {t : Nat} (h : firstMarked maps = some (w, t)) :
    lowestTrack maps[w] = some t := by
  obtain ⟨v, -, hv⟩ := List.exists_of_findSome?_eq_some h
  obtain ⟨u, hu, he⟩ := Option.map_eq_some_iff.1 hv
  cases he
  exact hu

theorem startTrack_routine (s : State) : Routine s (startTrack s) := by
  unfold startTrack
  split
  next hstart =>
    obtain ⟨-, hrun⟩ := hstart
    have hactive : s.role = .active := by
      simp only [resyncMayRun, Bool.and_eq_true, beq_iff_eq] at hrun
      exact hrun.1
    split
    next w t hfirst =>
      refine ⟨⟨rfl, rfl, rfl, rfl, rfl⟩, id, fun ht => ?_⟩
      have hlow := firstMarked_some hfirst
      have hmarked : s.maps[w] ≠ 0#64 := by
        intro h0
        have := (lowestTrack_eq_some.1 hlow).1
        simp [h0] at this
      have hmode := (((tracksHome_iff s).1 ht).1 w).resolve_left hmarked
      have hset := ht.setMap hmode.1 hmode.2 (s.maps[w] &&& ~~~BitVec.twoPow 64 t)
      rw [tracksHome_iff] at hset ⊢
      obtain ⟨hmaps, -, -⟩ := hset
      refine ⟨hmaps, .inr hactive, ?_⟩
      rintro p ⟨⟩
      exact ⟨hmode.1, lowestTrack_lt hlow, Nat.two_pow_pos _⟩
    next => exact .refl s
  next => exact .refl s

/-- A WAITING engine's request changes nothing of its walk. -/
theorem TracksHome.setRequest {s : State} (h : TracksHome s) {p : Walk} {old : Bool} (hs : s.resync = .waiting p old) (new : Bool) :
    TracksHome { s with resync := .waiting p new } := by
  refine h.setResync (((tracksHome_iff s).1 h).2.1.resolve_left (by rw [hs]; nofun) |> .inr) fun q hq => ?_
  rw [hs]
  exact hq

theorem settleRequest_routine (before s : State) : Routine s (settleRequest before s) := by
  unfold settleRequest
  split
  next p requesting hs =>
    split
    · exact ⟨⟨rfl, rfl, rfl, rfl, rfl⟩, id, fun ht => ht.setRequest hs false⟩
    split
    · split
      · exact ⟨⟨rfl, rfl, rfl, rfl, rfl⟩, id, fun ht => ht.setRequest hs _⟩
      · exact .refl s
    split
    · exact ⟨⟨rfl, rfl, rfl, rfl, rfl⟩, id, fun ht => ht.setRequest hs true⟩
    · exact .refl s
  all_goals exact .refl s

theorem settleRun_routine (before s : State) : Routine s (settleRun before s) := by
  unfold settleRun
  split <;> exact .refl s

theorem settleRejoin_routine (s : State) : Routine s (settleRejoin s) := Routine.refl s

/-- What every event ends with. -/
theorem settle_routine (before s : State) : Routine s (settle before s) :=
  ((((startTrack_routine s).trans (settleRequest_routine before _)).trans (settleRun_routine before _)).trans
    (settleRejoin_routine _)).trans (noteSync_routine before _)

/-! ## Changes of role (R124) -/

theorem answerDeferred_routine (s : State) : Routine s (answerDeferred s) :=
  .of_frame (answerDeferred_frame s) (Routine.refl (answerDeferred s))

theorem stopOnLeavingActive_routine (new : Role) (s : State) : Routine s (stopOnLeavingActive new s) := by
  unfold stopOnLeavingActive
  split
  · exact resyncStop_routine s
  · exact .refl s

@[simp] theorem stopOnLeavingActive_role (new : Role) (s : State) : (stopOnLeavingActive new s).role = s.role := by
  unfold stopOnLeavingActive
  split <;> simp

/-- After the engine has stopped where it must, it is IDLE or the new role is ACTIVE. -/
theorem stopOnLeavingActive_resync {s : State} (h : TracksHome s) (new : Role) :
    (stopOnLeavingActive new s).resync = .idle ∨ new = .active := by
  unfold stopOnLeavingActive
  split
  · exact .inl (resyncStop_resync s)
  next hstay =>
    obtain hidle | hactive := ((tracksHome_iff s).1 h).2.1
    · exact .inl hidle
    · exact .inr (by_contra fun hne => hstay ⟨hactive, hne⟩)

theorem emptyOnLeavingSide_routine (new : Role) (s : State) : Routine s (emptyOnLeavingSide new s) := by
  unfold emptyOnLeavingSide
  split
  · refine ⟨⟨rfl, rfl, rfl, rfl, rfl⟩, id, fun ht => ?_⟩
    obtain ⟨-, hrest⟩ := (tracksHome_iff s).1 ht
    exact (tracksHome_iff _).2 ⟨fun w => .inl (by simp), hrest⟩
  · exact .refl s

@[simp] theorem emptyOnLeavingSide_role (new : Role) (s : State) : (emptyOnLeavingSide new s).role = s.role := by
  unfold emptyOnLeavingSide
  split <;> rfl

@[simp] theorem emptyOnLeavingSide_resync (new : Role) (s : State) : (emptyOnLeavingSide new s).resync = s.resync := by
  unfold emptyOnLeavingSide
  split <;> rfl

/-- After the maps have been emptied where they must, they are empty or the new role is on the active side with the old. -/
theorem emptyOnLeavingSide_maps (new : Role) (s : State) :
    (∀ w : WindowId, (emptyOnLeavingSide new s).maps[w] = 0#64) ∨ (s.role.activeSide = true → new.activeSide = true) := by
  unfold emptyOnLeavingSide
  split
  · exact .inl fun w => by simp
  next hstay => exact .inr fun hside => by simpa [hside] using hstay

theorem changeRole_routine (new : Role) (s : State) : Routine s (changeRole new s) := by
  unfold changeRole
  extract_lets left
  have hleft : Routine s left := (stopOnLeavingActive_routine new s).trans (emptyOnLeavingSide_routine new _)
  have hrole : Routine s { left with role := new, link.joinSuspended := false, keptSwap := none } := by
    obtain ⟨hground, hbus, htracks⟩ := hleft
    refine ⟨hground, hbus, fun ht => (htracks ht).setRole (new := new) ?_ ?_⟩
    · unfold left
      rw [emptyOnLeavingSide_resync]
      exact stopOnLeavingActive_resync ht new
    · unfold left
      have := emptyOnLeavingSide_maps new (stopOnLeavingActive new s)
      simpa using this
  exact (hrole.trans (representHeld_routine _)).trans (answerDeferred_routine _)

/-- Full marking leaves the map of an OFF window. -/
theorem fullMarking_off (s : State) {w : WindowId} (hm : s.windows[w].mode ≠ .mirror) : (fullMarking s).maps[w] = s.maps[w] := by
  unfold fullMarking
  simpa using fun h => absurd h hm

theorem becomeActiveMarked_routine (s : State) : Routine s (becomeActiveMarked s) := by
  obtain ⟨hground, hbus, htracks⟩ := changeRole_routine .active s
  refine ⟨hground, hbus, fun ht => ?_⟩
  obtain ⟨hmaps, hrest⟩ := (tracksHome_iff _).1 (htracks ht)
  refine (tracksHome_iff _).2 ⟨fun w => ?_, hrest⟩
  by_cases hm : (changeRole .active s).windows[w].mode = .mirror
  · exact .inr ⟨hm, by simp [becomeActiveMarked, Role.activeSide]⟩
  · exact .inl ((fullMarking_off _ hm).trans ((hmaps w).resolve_right fun h => hm h.1))

theorem completePromotion_routine (s : State) : Routine s (completePromotion s) :=
  (becomeActiveMarked_routine s).trans (setCause_routine .promoted _)

end Sys2Proof.Machine

namespace Sys2Proof.Machine

open Sys2Proof

/-! ## The end of an association (R63, R64) -/

theorem Window.mode_of_isMatch {x : Window} {addr : Nat} (h : x.isMatch addr = true) : x.mode = .mirror :=
  ((x.isMatch_iff addr).1 h).1

@[simp] theorem flushEntry_role (s : State) (e : Entry) : (flushEntry s e).role = s.role :=
  (congrArg State.role (flushEntry_frame s e) :)

theorem flushLine_routine (w : WindowId) (line : LineNo) {s : State} (hside : s.role.activeSide = true) :
    Routine s (flushLine w line s) := by
  unfold flushLine
  split
  next hmatch => exact ⟨⟨rfl, rfl, rfl, rfl, rfl⟩, id, fun ht => ht.setMap (Window.mode_of_isMatch hmatch) hside _⟩
  next => exact .refl s

theorem flushEntry_routine (e : Entry) {s : State} (hside : s.role.activeSide = true) : Routine s (flushEntry s e) := by
  unfold flushEntry
  split
  · exact flushLine_routine _ _ hside
  · exact flushLine_routine _ _ hside
  · exact .refl s
  · exact .refl s

/-- On the active side the flush marks MIRROR windows alone. -/
theorem flush_routine {s : State} (hside : s.role.activeSide = true) : Routine s (flush s) := by
  have hall : Routine s (s.journal.foldl flushEntry s) ∧ (s.journal.foldl flushEntry s).role.activeSide = true := by
    refine List.foldlRecOn (motive := fun t : State => Routine s t ∧ t.role.activeSide = true) s.journal flushEntry
      ⟨.refl s, hside⟩ fun t ht e _ => ?_
    exact ⟨ht.1.trans (flushEntry_routine e ht.2), by rw [flushEntry_role]; exact ht.2⟩
  exact hall.1

theorem decideHandover_routine (sent : Bool) (s : State) : Routine s (decideHandover sent s) := by
  unfold decideHandover
  split
  · split
    · have hfault : Routine s { faultHeld s with handoverTimer := none } := faultHeld_routine s
      exact ((hfault.trans (changeRole_routine .fenced _)).trans (setCause_routine _ _)).trans (setCause_routine _ _)
    · have hstop : Routine s { s with handoverTimer := none } := .refl s
      exact (hstop.trans (changeRole_routine .active _)).trans (setCause_routine _ _)
  · exact .refl s

theorem activeLoss_routine (reason : LossReason) (peer : Option PartReason) {s : State} (hside : s.role.activeSide = true) :
    Routine s (activeLoss reason peer s) := by
  unfold activeLoss
  extract_lets lost _ quiet flushed
  have hquiet : Routine s quiet := .refl s
  have hflushed : Routine s flushed :=
    ((hquiet.trans (flush_routine hside)).trans (resyncStop_routine _)).trans (noteSync_routine s _)
  exact (hflushed.trans (decideHandover_routine (takeoverSent s) flushed)).elsewhere rfl

theorem standbyLoss_routine (reason : LossReason) (peer : Option PartReason) (s : State) :
    Routine s (standbyLoss reason peer s) := Routine.refl s

theorem endAssociation_routine (reason : LossReason) (peer : Option PartReason) (s : State) :
    Routine s (endAssociation reason peer s) := by
  unfold endAssociation
  split
  next hside => exact activeLoss_routine reason peer hside
  next => exact standbyLoss_routine reason peer s

theorem loseLink_routine (reason : LossReason) (peer : Option PartReason) (s : State) : Routine s (loseLink reason peer s) :=
  (endAssociation_routine reason peer s).trans (enterLinkState_routine .idle _)

theorem leaveAssociation_routine (reason : PartReason) (s : State) : Routine s (leaveAssociation reason s) :=
  (endAssociation_routine .locally none s).trans (leaveLink_routine reason _)

/-! ## The start of an association (R56 to R59) -/

theorem enterUpActive_routine (s : State) : Routine s (enterUpActive s) :=
  (((enterLinkState_routine .up s).trans (zeroSequence_routine _)).elsewhere rfl).trans (setCause_routine .linkUp _)

theorem acceptJoin_routine (session : Byte) (s : State) : Routine s (acceptJoin session s) :=
  (((((sendFrame_routine (.accept session) s).trans (enterLinkState_routine .up _)).trans (zeroSequence_routine _)).elsewhere
    rfl).trans (startStandbySide_routine true _)).trans (setCause_routine .linkUp _)

theorem answerJoin_routine (session : Byte) (s : State) : Routine s (answerJoin session s) := by
  unfold answerJoin
  split
  · split
    · exact acceptJoin_routine session s
    · exact .refl s
  · exact denyConflict_routine session s
  · exact denyConflict_routine session s
  · exact sendFrame_routine _ s
  · exact sendFrame_routine _ s
  · exact sendFrame_routine _ s

/-! ## The standby side (R93 to R100, R133, R137) -/

theorem sendAck_routine (final : Bool) (s : State) : Routine s (sendAck final s) := sendFrame_routine _ _

theorem sendResend_routine (s : State) : Routine s (sendResend s) := sendFrame_routine _ _

theorem reportCompletion_routine (leavesHold : Bool) (s : State) : Routine s (reportCompletion leavesHold s) := by
  unfold reportCompletion
  extract_lets _ counted
  split
  · split
    · exact sendResend_routine counted
    · exact sendAck_routine false counted
  split
  · exact sendAck_routine false counted
  · exact .refl s

theorem queueEmptied_routine (s : State) : Routine s (queueEmptied s) := by
  unfold queueEmptied
  split
  · split
    · split
      · exact acceptJoin_routine _ s
      · exact .refl s
    · exact .refl s
  · exact completePromotion_routine s
  all_goals exact .refl s

theorem completeRecord_routine (s : State) : Routine s (completeRecord s) := by
  unfold completeRecord
  extract_lets rest leavesHold _ done told
  have htold : Routine s told := by
    unfold told
    split
    · exact reportCompletion_routine leavesHold done
    · exact .refl s
  split
  · exact htold.trans (queueEmptied_routine told)
  · exact htold

theorem takeOver_routine (s : State) : Routine s (takeOver s) := by
  unfold takeOver
  extract_lets passed _ emptied _ acked swapped
  have hemptied : Routine s emptied := .refl s
  split
  · have hacked : Routine s acked := hemptied.trans (sendFrame_routine _ _)
    have hswapped : Routine s swapped := (hacked.trans (changeRole_routine .active acked)).trans (zeroSequence_routine _)
    exact (hswapped.elsewhere rfl).trans (setCause_routine .takenOver _)
  · exact (hemptied.trans (changeRole_routine .active emptied)).trans (setCause_routine .takenOver _)

theorem completeHandover_routine (s : State) : Routine s (completeHandover s) := by
  have hfault : Routine s { faultHeld s with handoverTimer := none } := faultHeld_routine s
  have hup : Routine s (zeroSequence (enterLinkState .up (changeRole .standby { faultHeld s with handoverTimer := none }))) :=
    ((hfault.trans (changeRole_routine .standby _)).trans (enterLinkState_routine .up _)).trans (zeroSequence_routine _)
  exact ((hup.elsewhere rfl).trans (startStandbySide_routine false _)).trans (setCause_routine .handoverDone _)

theorem takeRecord_routine (s : State) : Routine s (takeRecord s) := by
  unfold takeRecord
  split
  · exact .refl s
  split
  · split
    · split
      · exact .refl s
      · exact completeRecord_routine s
    · exact completeRecord_routine (setCause .mapMismatch s)
  · split
    · split
      · exact .refl s
      · exact completeRecord_routine s
    · exact completeRecord_routine (setCause .mapMismatch s)
  · exact completeRecord_routine s
  · split
    · exact takeOver_routine s
    · exact completeRecord_routine s

/-! ## Removal by acknowledgement (R39, R40) -/

theorem completeMark_routine (s : State) (e : Entry) : Routine s (completeMark s e) := by
  unfold completeMark
  split <;> exact .refl s

theorem removeAcknowledged_routine (aseq : Byte) (s : State) : Routine s (removeAcknowledged aseq s) := by
  unfold removeAcknowledged
  extract_lets gone _ kept told
  have htold : Routine s told :=
    List.foldlRecOn (motive := Routine s) gone completeMark (Routine.refl s) fun t ht e _ => ht.trans (completeMark_routine t e)
  split
  · exact htold
  · exact htold.trans (representStalled_routine told)

/-! # What every event keeps -/

/-! ## The word bus (R6, R153, R156) -/

/-- A write diverges only on an ACTIVE part, in a MIRROR window (R7, R13). -/
theorem classify_diverge {s : State} {a : Access} {forced : Bool} {w : WindowId} (h : classify s a forced = .diverge w) :
    s.role = .active ∧ s.windows[w].mode = .mirror := by
  unfold classify at h
  split at h
  · nomatch h
  next v hv =>
    have hmode := Window.mode_of_isMatch ((owner_eq_some_iff _ _ _).1 hv).1
    split at h
    · nomatch h
    next hrole =>
      obtain rfl : v = w := by
        split at h
        · cases h
          rfl
        · unfold classifyActive at h
          (repeat' split at h) <;> cases h
          all_goals rfl
      exact ⟨hrole, hmode⟩
    all_goals nomatch h

theorem startUpstream_routine {s : State} {a : Access} {forced : Bool} (hs : s.upstream = .requesting a forced) :
    Routine s (startUpstream a s) :=
  ⟨⟨rfl, rfl, rfl, rfl, rfl⟩, fun hb => hb.start hs _, id⟩

/-- A requesting access that ends or is held leaves the port alone. -/
theorem BusFits.ofRequesting {s : State} (h : BusFits s) {a : Access} {forced : Bool} (hs : s.upstream = .requesting a forced)
    {x : Upstream} {d : Timer} (hx : ∀ b, x ≠ .inProgress b) (hd : d.isSome = true ↔ ∃ b w, x = .held b w .stall) :
    BusFits { s with upstream := x, stallTimer := d } := by
  have hport := (portMatches_iff s).1 h.1
  rw [hs] at hport
  refine ⟨(portMatches_iff _).2 ?_, (stallMatches_iff _).2 hd⟩
  simpa [hx] using hport

theorem grantUpstream_routine {s : State} {a : Access} {forced : Bool} (hs : s.upstream = .requesting a forced) :
    Routine s (grantUpstream a forced s) := by
  unfold grantUpstream
  split
  · exact startUpstream_routine hs
  split
  · exact startUpstream_routine hs
  next w _ => exact startUpstream_routine (s := captureWrite w a s) hs
  next w _ => exact startUpstream_routine (s := mergeWrite w a s) hs
  next w hdiverge =>
    obtain ⟨hrole, hmode⟩ := classify_diverge hdiverge
    have hmark : Routine s (divergeWrite w a s) :=
      ⟨⟨rfl, rfl, rfl, rfl, rfl⟩, id, fun ht => ht.setMap hmode (by rw [hrole]; rfl) _⟩
    exact hmark.trans (startUpstream_routine (s := divergeWrite w a s) hs)
  next w reason _ =>
    refine ⟨⟨rfl, rfl, rfl, rfl, rfl⟩, fun hb => hb.ofRequesting hs (x := .held a w reason) (fun _ => nofun) ?_, id⟩
    cases reason <;> simp [holdWrite, countHeld]
  next w _ =>
    refine ⟨⟨rfl, rfl, rfl, rfl, rfl⟩, fun hb => ?_, id⟩
    have hstall := (stallMatches_iff s).1 hb.2
    rw [hs] at hstall
    exact hb.ofRequesting hs (x := .none) (fun _ => nofun) (d := s.stallTimer) (by simpa using hstall)

theorem grantInternal_routine {r : InternalRequest} {s : State} (hport : s.port = none) (hr : internalRequest s = some r) :
    Routine s (grantInternal r s) := by
  have hfree (x : PortAccess) (hx : x.owner ≠ .upstream) (hb : BusFits s) : BusFits { s with port := some x } :=
    hb.setPort (by rw [hport]; nofun) (by rintro _ ⟨⟩; exact hx)
  unfold grantInternal
  split
  next p =>
    have hwait : s.resync = .waiting p true := by
      unfold internalRequest at hr
      (repeat' split at hr) <;> simp_all
    split
    · refine ⟨⟨rfl, rfl, rfl, rfl, rfl⟩, fun hb => hfree _ nofun hb, fun ht => ?_⟩
      refine ht.setResync (((tracksHome_iff s).1 ht).2.1.resolve_left (by rw [hwait]; nofun) |> .inr) fun q hq => ?_
      rw [hwait]
      exact hq
    · exact ⟨⟨rfl, rfl, rfl, rfl, rfl⟩, id, fun ht => ht.setRequest hwait false⟩
  · exact ⟨⟨rfl, rfl, rfl, rfl, rfl⟩, fun hb => hfree _ nofun hb, id⟩
  · split
    · exact ⟨⟨rfl, rfl, rfl, rfl, rfl⟩, fun hb => hfree _ nofun hb, id⟩
    · exact .refl s

theorem upstreamRequest_some {s : State} {a : Access} {forced : Bool} (h : upstreamRequest s = some (a, forced)) :
    s.upstream = .requesting a forced := by
  unfold upstreamRequest at h
  split at h
  next hs =>
    cases h
    exact hs
  all_goals nomatch h

theorem grant_routine (s : State) : Routine s (grant s) := by
  unfold grant
  split
  · exact .refl s
  next hport =>
    have hport : s.port = none := by simpa using hport
    split
    · exact .refl s
    next hu _ => exact grantUpstream_routine (upstreamRequest_some hu)
    next hr => exact grantInternal_routine hport hr
    next hu hr =>
      split
      · exact grantUpstream_routine (s := { s with upstreamRun := s.upstreamRun + 1 }) (upstreamRequest_some hu)
      · exact grantInternal_routine hport hr

end Sys2Proof.Machine

namespace Sys2Proof.Machine

open Sys2Proof

/-! ## Engines and timers (R13, R52, R69, R76, R78, R95, R102, R134) -/

theorem takeNext_routine (s : State) : Routine s (takeNext s) := by
  unfold takeNext
  split
  · exact takeRecord_routine s
  · exact .refl s

theorem expireStall_routine (s : State) : Routine s (expireStall s) := by
  unfold expireStall
  split
  next a w d hs _ => exact ⟨⟨rfl, rfl, rfl, rfl, rfl⟩, fun hb => hb.leaveSlot hs (.inr ⟨a, true, rfl⟩), id⟩
  next => exact .refl s

theorem expireRejoin_routine (s : State) : Routine s (expireRejoin s) := by
  unfold expireRejoin
  split
  · have hsession : Routine s { s with link.session := s.link.session + 1, link.retry := 1 } := .refl s
    exact ((hsession.trans (sendFrame_routine _ _)).trans (enterLinkState_routine _ _)).trans (startReply_routine _)
  · exact .refl s

theorem expireReply_routine (s : State) : Routine s (expireReply s) := by
  have hretry (n : Nat) : Routine s { s with link.retry := n } := .refl s
  unfold expireReply
  split
  · exact .refl s
  split
  · exact enterRecovery_routine s
  · split
    · exact ((hretry _).trans (sendAsk_routine _)).trans (startReply_routine _)
    · exact loseLink_routine .noReply none s
  · split
    · exact ((hretry _).trans (sendFrame_routine _ _)).trans (startReply_routine _)
    · exact ((hretry 0).trans (stopReply_routine _)).trans (enterLinkState_routine .idle _)
  · exact endLeaving_routine s
  · exact stopReply_routine s
  · exact stopReply_routine s

theorem expireQuiet_routine (s : State) : Routine s (expireQuiet s) := by
  have hexpired : Routine s { s with link.quietTimer := .expired } := .refl s
  unfold expireQuiet
  split
  · dsimp only
    split
    · exact hexpired.trans (enterRecovery_routine _)
    · exact hexpired
  · exact .refl s
  · exact .refl s

theorem expireSilence_routine (s : State) : Routine s (expireSilence s) := by
  unfold expireSilence
  split
  · exact (standbyLoss_routine .silence none s).trans (enterLinkState_routine .idle _)
  · exact .refl s

theorem expireHandover_routine (s : State) : Routine s (expireHandover s) := by
  unfold expireHandover
  split
  · dsimp only
    split
    · have hwithdrawn : Routine s { s with handoverTimer := none, journal := s.journal.dropLast } := .refl s
      exact (hwithdrawn.trans (changeRole_routine .active _)).trans (setCause_routine .handoverFailed _)
    · exact .refl s
  · exact .refl s

theorem retransmit_routine (s : State) : Routine s (retransmit s) := by
  unfold retransmit
  split <;> exact .refl s

theorem transmitFirst_routine (s : State) : Routine s (transmitFirst s) := by
  unfold transmitFirst
  split
  · split
    · dsimp only
      split <;> exact .refl s
    · exact .refl s
  · exact .refl s

theorem decideRec_routine (s : State) : Routine s (decideRec s) := by
  unfold decideRec
  split
  · split
    · exact transmitFirst_routine s
    · exact retransmit_routine s
  · exact .refl s

/-! ## Received frames (R51, R54, R56, R60, R71, R92, R99) -/

theorem receiveJoin_routine (session : Byte) (s : State) : Routine s (receiveJoin session s) := by
  have hassociated : Routine s (if s.role.activeSide then denyConflict session (heard s)
      else if s.link.acceptRepeat && session == s.link.session then sendFrame (.accept session) (heard s)
      else answerJoin session (enterLinkState .idle (standbyLoss .peerRejoin none s))) := by
    split
    · exact (heard_routine s).trans (denyConflict_routine _ _)
    split
    · exact (heard_routine s).trans (sendFrame_routine _ _)
    · exact ((standbyLoss_routine _ _ s).trans (enterLinkState_routine _ _)).trans (answerJoin_routine _ _)
  unfold receiveJoin
  split
  · exact answerJoin_routine session s
  · exact denyConflict_routine session s
  · exact hassociated
  · exact hassociated
  · exact .refl s
  · exact .refl s

theorem receiveAccept_routine (session : Byte) (s : State) : Routine s (receiveAccept session s) := by
  unfold receiveAccept
  split
  · exact sendClosed_routine s
  · split
    · exact enterUpActive_routine s
    · exact .refl s
  · exact heardOther_routine s
  · exact heardOther_routine s
  · exact .refl s
  · exact .refl s

theorem deniedJoin_routine (reason : DenyReason) (s : State) : Routine s (deniedJoin reason s) := by
  unfold deniedJoin
  have hidle : Routine s (enterLinkState .idle (stopReply { s with link.retry := 0 })) :=
    enterLinkState_routine .idle (stopReply { s with link.retry := 0 })
  dsimp only
  split
  · exact (hidle.elsewhere rfl).trans (setCause_routine _ _)
  · exact hidle.trans (setCause_routine _ _)
  · exact hidle.trans (setCause_routine _ _)

theorem receiveDeny_routine (session : Byte) (reason : DenyReason) (s : State) :
    Routine s (receiveDeny session reason s) := by
  unfold receiveDeny
  split
  · split
    · exact deniedJoin_routine reason s
    · exact .refl s
  · exact heardOther_routine s
  · exact heardOther_routine s
  all_goals exact .refl s

theorem receivePart_routine (reason : PartReason) (s : State) : Routine s (receivePart reason s) := by
  unfold receivePart
  split
  · exact sendClosed_routine s
  · exact sendClosed_routine s
  · exact (sendClosed_routine s).trans (loseLink_routine _ _ _)
  · exact (sendClosed_routine s).trans (loseLink_routine _ _ _)
  · exact .refl s
  · exact .refl s

theorem receiveClosed_routine (s : State) : Routine s (receiveClosed s) := by
  unfold receiveClosed
  split
  · exact loseLink_routine _ _ s
  · exact loseLink_routine _ _ s
  · exact endLeaving_routine s
  all_goals exact .refl s

theorem queueRecord_routine (tseq : Byte) (r : Record) (s : State) : Routine s (queueRecord tseq r s) := by
  unfold queueRecord
  extract_lets queue _ taken _ flowed
  have hflowed : Routine s flowed := by
    unfold flowed
    split
    · exact sendAck_routine false { taken with standby.holding := true }
    · exact .refl s
  split
  · exact hflowed.trans (takeRecord_routine flowed)
  · exact hflowed

theorem discardRecord_routine (s : State) : Routine s (discardRecord s) := by
  unfold discardRecord
  split
  · exact .refl s
  · exact sendResend_routine { s with standby.resendException := true }

theorem discardFrame_routine (s : State) : Routine s (discardFrame s) := by
  unfold discardFrame
  split <;> exact .refl s

theorem receiveRec_routine (tseq : Byte) (r : Record) (s : State) : Routine s (receiveRec tseq r s) := by
  unfold receiveRec
  split
  · split
    · exact sendClosed_routine s
    · exact sendClosed_routine s
    · dsimp only
      split
      · exact heardOther_routine s
      split
      · exact (heardOther_routine s).trans (queueRecord_routine tseq r _)
      · exact (heardOther_routine s).trans (discardRecord_routine _)
    · exact heardOther_routine s
    · exact .refl s
    · exact .refl s
  · exact discardFrame_routine s

theorem receiveAsk_routine (s : State) : Routine s (receiveAsk s) := by
  unfold receiveAsk
  split
  · exact sendClosed_routine s
  · exact sendClosed_routine s
  · dsimp only
    split
    · split
      · exact (heardOther_routine s).trans (sendFrame_routine _ _)
      · exact heardOther_routine s
    · exact (heardOther_routine s).trans (sendAck_routine true _)
  · exact heardOther_routine s
  · exact .refl s
  · exact .refl s

/-! ## Acknowledgements (R72, R73, R81, R82, R133) -/

theorem replyAfterAck_routine (advanced : Bool) (s : State) : Routine s (replyAfterAck advanced s) := by
  unfold replyAfterAck
  (repeat' split) <;> exact .refl s

theorem ackInUp_routine (aseq : Byte) (hold : Bool) (s : State) : Routine s (ackInUp aseq hold s) :=
  ((removeAcknowledged_routine aseq s).elsewhere rfl).trans (replyAfterAck_routine _ _)

theorem ackEndsRecovery_routine (aseq : Byte) (hold : Bool) (s : State) : Routine s (ackEndsRecovery aseq hold s) := by
  unfold ackEndsRecovery
  extract_lets _ _ up
  have hup : Routine s up := ((removeAcknowledged_routine aseq s).elsewhere rfl).trans (enterLinkState_routine .up _)
  split
  · exact hup.trans (stopReply_routine up)
  · exact (hup.elsewhere rfl).trans (startReply_routine _)

theorem ackInRecovery_routine (aseq : Byte) (hold : Bool) (s : State) : Routine s (ackInRecovery aseq hold s) :=
  (removeAcknowledged_routine aseq s).elsewhere rfl

theorem takeAck_routine (aseq : Byte) (final hold : Bool) (s : State) : Routine s (takeAck aseq final hold s) := by
  unfold takeAck
  split
  · exact (removeAcknowledged_routine aseq s).trans (completeHandover_routine _)
  split
  · split
    · exact ackEndsRecovery_routine aseq hold s
    · exact ackInRecovery_routine aseq hold s
  · exact ackInUp_routine aseq hold s

theorem receiveAck_routine (aseq : Byte) (final hold swap : Bool) (s : State) :
    Routine s (receiveAck aseq final hold swap s) := by
  have hassociated : Routine s (if s.role.activeSide then
      if ackValid s aseq swap then takeAck aseq final hold (heardOther s) else loseLink .sequence none s else heardOther s) := by
    split
    · split
      · exact (heardOther_routine s).trans (takeAck_routine aseq final hold _)
      · exact loseLink_routine _ _ s
    · exact heardOther_routine s
  unfold receiveAck
  split
  · exact sendClosed_routine s
  · exact sendClosed_routine s
  · exact hassociated
  · exact hassociated
  · exact .refl s
  · exact .refl s

theorem takeResend_routine (aseq rseq : Byte) (hold : Bool) (s : State) : Routine s (takeResend aseq rseq hold s) := by
  unfold takeResend
  extract_lets _ _ _ moved
  have hmoved : Routine s moved := (removeAcknowledged_routine aseq s).elsewhere rfl
  split
  · exact hmoved
  split
  · exact hmoved.trans (stopReply_routine moved)
  · exact hmoved.trans (startReply_routine moved)

theorem receiveResend_routine (aseq rseq : Byte) (hold : Bool) (s : State) :
    Routine s (receiveResend aseq rseq hold s) := by
  have hassociated : Routine s (if s.role.activeSide then
      if resendValid s aseq rseq then takeResend aseq rseq hold (heardOther s) else loseLink .sequence none s
      else heardOther s) := by
    split
    · split
      · exact (heardOther_routine s).trans (takeResend_routine aseq rseq hold _)
      · exact loseLink_routine _ _ s
    · exact heardOther_routine s
  unfold receiveResend
  split
  · exact sendClosed_routine s
  · exact sendClosed_routine s
  · exact hassociated
  · exact hassociated
  · exact .refl s
  · exact .refl s

/-! ## Commands of the management port (R47, R48, R127, R129, R131, R142) -/

theorem discardQueue_routine (s : State) : Routine s (discardQueue s) :=
  ((Routine.refl s).elsewhere rfl).trans (dropAccess_routine (by decide) _)

theorem withdrawRole_routine (s : State) : Routine s (withdrawRole s) := by
  unfold withdrawRole
  extract_lets _ left changed
  have hleft : Routine s left := by
    unfold left
    split
    · exact leaveAssociation_routine _ s
    split
    · exact leaveLink_routine _ { s with link.retry := 0 }
    · exact .refl s
  have hchanged : Routine s changed := hleft.trans (changeRole_routine .unassigned left)
  split
  · exact hchanged.trans (discardQueue_routine changed)
  · exact hchanged

theorem startPromotion_routine (s : State) : Routine s (startPromotion s) := by
  unfold startPromotion
  extract_lets left promoting
  have hleft : Routine s left := by
    unfold left
    split
    · exact leaveAssociation_routine _ s
    · exact .refl s
  have hpromoting : Routine s promoting := hleft.trans (changeRole_routine .promoting left)
  split
  · exact hpromoting.trans (completePromotion_routine promoting)
  · exact hpromoting

theorem startHandover_routine (s : State) : Routine s (startHandover s) := by
  have happended : Routine s (appendEntry { body := .takeover, state := .pending } s) := .refl s
  exact (happended.trans (changeRole_routine .handingOver _)).elsewhere rfl

theorem enableLink_routine (s : State) : Routine s (enableLink s) := by
  have henabled : Routine s { s with link.enable := true, link.joinSuspended := false } := .refl s
  unfold enableLink
  dsimp only
  split
  · exact (henabled.trans (enterLinkState_routine .idle _)).elsewhere rfl
  · exact henabled

theorem disableLink_routine (s : State) : Routine s (disableLink s) := by
  have hdisabled : Routine s { s with link.enable := false } := .refl s
  unfold disableLink
  dsimp only
  split
  · exact hdisabled
  · exact hdisabled
  · exact (hdisabled.elsewhere rfl).trans (enterLinkState_routine .offline _)
  · exact (hdisabled.elsewhere rfl).trans (leaveLink_routine .disabled _)
  · exact hdisabled.trans (leaveAssociation_routine .disabled _)
  · exact hdisabled.trans (leaveAssociation_routine .disabled _)

theorem present_routine (a : Access) (s : State) : Routine s (present a s) := by
  unfold present
  split
  next hs =>
    split
    · exact .refl s
    · refine ⟨⟨rfl, rfl, rfl, rfl, rfl⟩, fun hb => ?_, id⟩
      have hport := (portMatches_iff s).1 hb.1
      have hstall := (stallMatches_iff s).1 hb.2
      rw [hs] at hport hstall
      exact ⟨(portMatches_iff _).2 (by simpa using hport), (stallMatches_iff _).2 (by simpa using hstall)⟩
  all_goals exact .refl s

/-! ## A completion (R153) -/

/-- The FILLING entry's read leaves the walk inside the walk it had, or one line on in the same track (R115). -/
theorem completeRead_routine (word : WordData) (s : State) : Routine s (completeRead word s) := by
  unfold completeRead
  split
  next walk n hs =>
    have hactive (ht : TracksHome s) : s.role = .active := ((tracksHome_iff s).1 ht).2.1.resolve_left (by rw [hs]; nofun)
    split
    · refine ⟨⟨rfl, rfl, rfl, rfl, rfl⟩, id, fun ht => ht.setResync (.inr (hactive ht)) fun p hp => ?_⟩
      rw [hs]
      exact hp
    · have hadvance (ht : TracksHome s) : TracksHome { s with resync := advanceWalk s walk } := by
        obtain ⟨hmaps, -, hwalk⟩ := (tracksHome_iff s).1 ht
        refine (tracksHome_iff _).2 ⟨hmaps, .inr (hactive ht), ?_⟩
        unfold advanceWalk
        split
        next p =>
          obtain ⟨hmode, htrack, -⟩ := hwalk p (by rw [hs]; rfl)
          dsimp only
          split
          next hmore =>
            rintro q ⟨⟩
            exact ⟨hmode, htrack, hmore⟩
          next => nofun
        next => nofun
      cases hf : fillingLine s <;> exact ⟨⟨rfl, rfl, rfl, rfl, rfl⟩, id, hadvance⟩
  · exact .refl s
  · exact .refl s

theorem completeApplyWord_routine (s : State) : Routine s (completeApplyWord s) := by
  unfold completeApplyWord
  split
  · split
    · exact .refl s
    · exact completeRecord_routine s
  · exact .refl s

theorem completeAccess_upstream {s : State} {p : PortAccess} (hp : s.port = some p) (ho : p.owner = .upstream) :
    completeAccess s = completeUpstream { s with port := none, mem := memoryAfter s p.access } := by
  simp [completeAccess, hp, ho]

theorem completeAccess_resync {s : State} {p : PortAccess} (hp : s.port = some p) (ho : p.owner = .resync) :
    completeAccess s =
      completeRead (Memory.readWord s.mem p.access.addr) { s with port := none, mem := memoryAfter s p.access } := by
  simp [completeAccess, hp, ho]

theorem completeAccess_apply {s : State} {p : PortAccess} (hp : s.port = some p) (ho : p.owner = .apply) :
    completeAccess s = completeApplyWord { s with port := none, mem := memoryAfter s p.access } := by
  simp [completeAccess, hp, ho]

theorem completeAccess_dropped {s : State} {p : PortAccess} (hp : s.port = some p) (ho : p.owner = .dropped) :
    completeAccess s = { s with port := none, mem := memoryAfter s p.access } := by
  simp [completeAccess, hp, ho]

/-- The port is FREE again and the upstream access ends (R151). -/
theorem completeUpstream_busFits {s : State} (hb : BusFits s) {p : PortAccess} (hp : s.port = some p) (ho : p.owner = .upstream)
    (m : List Host.Cell) : BusFits (completeUpstream { s with port := none, mem := m }) := by
  have hstall := (stallMatches_iff s).1 hb.2
  obtain ⟨a, ha⟩ : ∃ a, s.upstream = .inProgress a := ((portMatches_iff s).1 hb.1).2 ⟨p, hp, ho⟩
  refine ⟨(portMatches_iff _).2 ?_, (stallMatches_iff _).2 ?_⟩
  · simp [completeUpstream, ha]
  · simpa [completeUpstream, ha] using hstall

/-- A completion keeps all but memory, which takes the access. -/
theorem completeAccess_routine {s : State} {p : PortAccess} (hp : s.port = some p) :
    Routine { s with mem := memoryAfter s p.access } (completeAccess s) := by
  have hfreed (hown : p.owner ≠ .upstream) :
      Routine { s with mem := memoryAfter s p.access } { s with port := none, mem := memoryAfter s p.access } := by
    refine ⟨⟨rfl, rfl, rfl, rfl, rfl⟩, fun hb => hb.setPort ?_ nofun, id⟩
    rintro q hq
    cases hp.symm.trans hq
    exact hown
  cases ho : p.owner with
  | upstream =>
    rw [completeAccess_upstream hp ho]
    refine ⟨?_, fun hb => completeUpstream_busFits hb hp ho _, ?_⟩
    · unfold completeUpstream
      split <;> exact ⟨rfl, rfl, rfl, rfl, rfl⟩
    · unfold completeUpstream
      split <;> exact id
  | resync =>
    rw [completeAccess_resync hp ho]
    exact (hfreed (by rw [ho]; decide)).trans (completeRead_routine _ _)
  | apply =>
    rw [completeAccess_apply hp ho]
    exact (hfreed (by rw [ho]; decide)).trans (completeApplyWord_routine _)
  | dropped =>
    rw [completeAccess_dropped hp ho]
    exact hfreed (by rw [ho]; decide)

theorem completeAccess_free {s : State} (hp : s.port = none) : completeAccess s = s := by rw [completeAccess, hp]

end Sys2Proof.Machine

namespace Sys2Proof.Machine

open Sys2Proof

/-! ## A window written (R2, R16 to R18, R118) -/

/-- The engine once the walk inside a window is abandoned (R118). -/
def Resync.leave (w : WindowId) : Resync → Resync
  | .idle => .idle
  | .waiting p requesting => if p.window = w then .idle else .waiting p requesting
  | .reading none n => .reading none n
  | .reading (some p) n => if p.window = w then .reading none n else .reading (some p) n

theorem abandonWalk_eq (w : WindowId) (s : State) : abandonWalk w s = { s with resync := s.resync.leave w } := by
  unfold abandonWalk walkInside
  cases hs : s.resync with
  | idle => simp [Resync.leave, Resync.walk, ← hs]
  | waiting p requesting => by_cases hw : p.window = w <;> simp [Resync.leave, Resync.walk, hw, ← hs]
  | reading walk n =>
    cases walk with
    | none => simp [Resync.leave, Resync.walk, ← hs]
    | some p => by_cases hw : p.window = w <;> simp [Resync.leave, Resync.walk, hw, ← hs]

theorem Resync.walk_leave {w : WindowId} {x : Resync} {p : Walk} (h : (x.leave w).walk = some p) :
    x.walk = some p ∧ p.window ≠ w := by
  cases x with
  | idle => nomatch h
  | waiting q requesting =>
    simp only [Resync.leave] at h
    split at h
    · nomatch h
    next hq =>
      cases h
      exact ⟨rfl, hq⟩
  | reading walk n =>
    cases walk with
    | none => nomatch h
    | some q =>
      simp only [Resync.leave] at h
      split at h
      · nomatch h
      next hq =>
        cases h
        exact ⟨rfl, hq⟩

/-- A window may be written where its map and the walk inside it allow it. -/
theorem TracksHome.setWindow {s : State} (h : TracksHome s) {w : WindowId} {new : Window}
    (hmap : s.maps[w] = 0#64 ∨ (new.mode = .mirror ∧ s.role.activeSide = true))
    (hwalk : ∀ p, s.resync.walk = some p → p.window = w → new.mode = .mirror ∧ p.offset < new.trackLines) :
    TracksHome { s with windows := s.windows.set w new } := by
  obtain ⟨hmaps, hrun, hin⟩ := (tracksHome_iff s).1 h
  refine (tracksHome_iff _).2 ⟨fun v => ?_, hrun, fun p hp => ?_⟩
  · by_cases hv : v = w
    · subst hv
      simpa using hmap
    · have : w.val ≠ v.val := fun e => hv (Fin.ext e.symm)
      simpa [Vector.getElem_set, this] using hmaps v
  · obtain ⟨hmode, htrack, hoffset⟩ := hin p hp
    by_cases hv : p.window = w
    · obtain ⟨hnew, hlines⟩ := hwalk p hp hv
      subst hv
      simpa using ⟨hnew, htrack, hlines⟩
    · have : w.val ≠ p.window.val := fun e => hv (Fin.ext e.symm)
      simpa [Vector.getElem_set, this] using ⟨hmode, htrack, hoffset⟩

/-- The state a written window leaves before a held write is re-presented. -/
def windowTracked (w : WindowId) (new : Window) (s : State) : State :=
  match s.windows[w].mode, new.mode with
  | .off, .mirror =>
    { s with
      windows := s.windows.set w new
      maps := if s.role = .active then s.maps.set w (BitVec.allOnes 64) else s.maps }
  | .mirror, .off =>
    { s with windows := s.windows.set w new, maps := s.maps.set w 0#64, resync := s.resync.leave w }
  | .off, .off | .mirror, .mirror => { s with windows := s.windows.set w new }

/-- A written window, then the re-presentation where mode or policy changed and the new range holds the held write (R14). -/
theorem changeWindow_eq (w : WindowId) (new : Window) (s : State) :
    changeWindow w new s =
      if (s.windows[w].mode ≠ new.mode ∨ s.windows[w].policy ≠ new.policy) ∧ heldIn s new = true then
        representHeld (windowTracked w new s)
      else windowTracked w new s := by
  unfold changeWindow
  extract_lets old set tracked
  have htracked : tracked = windowTracked w new s := by
    unfold tracked windowTracked
    cases ho : s.windows[w].mode <;> cases hn : new.mode <;> simp only [abandonWalk_eq]
    · rfl
    · split <;> rfl
    · rfl
    · rfl
  rw [htracked]

theorem windowTracked_frame (w : WindowId) (new : Window) (s : State) :
    { windowTracked w new s with windows := s.windows, maps := s.maps, resync := s.resync } = s := by
  unfold windowTracked
  split <;> rfl

theorem windowTracked_tracksHome {s : State} (h : TracksHome s) {w : WindowId} {new : Window}
    (hrange : s.windows[w].mode = .mirror → new.base = s.windows[w].base ∧ new.sizeExp = s.windows[w].sizeExp) :
    TracksHome (windowTracked w new s) := by
  obtain ⟨hmaps, hrun, hin⟩ := (tracksHome_iff s).1 h
  have hoff (ho : s.windows[w].mode = .off) : s.maps[w] = 0#64 := (hmaps w).resolve_right (by rw [ho]; nofun)
  have hout (ho : s.windows[w].mode = .off) : ∀ p, s.resync.walk = some p → p.window ≠ w := by
    rintro p hp rfl
    have := (hin p hp).1
    rw [ho] at this
    nomatch this
  unfold windowTracked
  split
  next ho hn =>
    have hset : TracksHome { s with windows := s.windows.set w new } :=
      h.setWindow (.inl (hoff ho)) fun p hp hw => absurd hw (hout ho p hp)
    split
    next hactive => exact hset.setMap (w := w) (by simpa using hn) (by rw [hactive]; rfl) _
    next => exact hset
  next ho hn =>
    have hcleared : TracksHome { s with maps := s.maps.set w 0#64, resync := s.resync.leave w } := by
      refine (h.clearMap w).setResync ?_ fun p hp => (Resync.walk_leave hp).1
      obtain hidle | hactive := hrun
      · exact .inl (by rw [hidle]; rfl)
      · exact .inr hactive
    exact hcleared.setWindow (.inl (by simp)) fun p hp hw => absurd hw (Resync.walk_leave hp).2
  next ho hn => exact h.setWindow (.inl (hoff ho)) fun p hp hw => absurd hw (hout ho p hp)
  next ho hn =>
    refine h.setWindow ((hmaps w).imp_right fun hw => ⟨hn, hw.2⟩) fun p hp hw => ⟨hn, ?_⟩
    subst hw
    rw [Window.trackLines, (hrange ho).2]
    exact (hin p hp).2.2

/-- A written window leaves memory, the waiting commands and the parameters, and keeps bus and tracks sound. -/
theorem changeWindow_keeps (w : WindowId) (new : Window) (s : State)
    (hrange : s.windows[w].mode = .mirror → new.base = s.windows[w].base ∧ new.sizeExp = s.windows[w].sizeExp) :
    ((changeWindow w new s).mem = s.mem ∧ (changeWindow w new s).pending = s.pending ∧
      (changeWindow w new s).linkParams = s.linkParams ∧ (changeWindow w new s).pathParams = s.pathParams) ∧
    (BusFits s → BusFits (changeWindow w new s)) ∧ (TracksHome s → TracksHome (changeWindow w new s)) := by
  have hframe := windowTracked_frame w new s
  have hground : (windowTracked w new s).mem = s.mem ∧ (windowTracked w new s).pending = s.pending ∧
      (windowTracked w new s).linkParams = s.linkParams ∧ (windowTracked w new s).pathParams = s.pathParams :=
    ⟨(congrArg State.mem hframe :), (congrArg State.pending hframe :), (congrArg State.linkParams hframe :),
      (congrArg State.pathParams hframe :)⟩
  have hbus : BusFits s → BusFits (windowTracked w new s) := fun h => (congrArg BusFits hframe).mpr h
  have htracks (h : TracksHome s) := windowTracked_tracksHome h hrange
  rw [changeWindow_eq]
  split
  · obtain ⟨⟨hm, hp, -, hl, hpp⟩, hb, ht⟩ := representHeld_routine (windowTracked w new s)
    rw [hm, hp, hl, hpp]
    exact ⟨hground, hb ∘ hbus, ht ∘ htracks⟩
  · exact ⟨hground, hbus, htracks⟩

/-! ## Every event -/

/-- An event is a routine of the part, a completion, a written window or new path parameters. -/
theorem Event.routine {c : Instr} {s u : State} (h : Event s c u) :
    Routine s u ∨
    (c = .downstreamCompletion ∧ ∃ p, s.port = some p ∧ Routine { s with mem := memoryAfter s p.access } u) ∨
    (∃ w new, u = changeWindow w new s ∧
      (s.windows[w].mode = .mirror → new.base = s.windows[w].base ∧ new.sizeExp = s.windows[w].sizeExp)) ∨
    ∃ p : PathParams, p.inRange = true ∧ u = { s with pathParams := p } := by
  cases h with
  | grant => exact .inl (grant_routine s)
  | completion =>
    obtain hp | ⟨p, hp⟩ := s.port.eq_none_or_eq_some
    · rw [completeAccess_free hp]
      exact .inl (.refl s)
    · exact .inr (.inl ⟨rfl, p, hp, completeAccess_routine hp⟩)
  | recordTaken => exact .inl (takeNext_routine s)
  | stallExpiry => exact .inl (expireStall_routine s)
  | rejoinExpiry => exact .inl (expireRejoin_routine s)
  | replyExpiry => exact .inl (expireReply_routine s)
  | quietExpiry => exact .inl (expireQuiet_routine s)
  | silenceExpiry => exact .inl (expireSilence_routine s)
  | handoverExpiry => exact .inl (expireHandover_routine s)
  | joinFrame session => exact .inl (receiveJoin_routine session s)
  | acceptFrame session => exact .inl (receiveAccept_routine session s)
  | denyFrame session reason => exact .inl (receiveDeny_routine session reason s)
  | partFrame reason => exact .inl (receivePart_routine reason s)
  | closedFrame => exact .inl (receiveClosed_routine s)
  | recFrame tseq r => exact .inl (receiveRec_routine tseq r s)
  | ackFrame aseq final hold swap => exact .inl (receiveAck_routine aseq final hold swap s)
  | resendFrame aseq rseq hold => exact .inl (receiveResend_routine aseq rseq hold s)
  | askFrame => exact .inl (receiveAsk_routine s)
  | windowWritten w new hrange => exact .inr (.inr (.inl ⟨w, new, rfl, hrange⟩))
  | rangeMarked w range hrole hmode =>
    exact .inl ⟨⟨rfl, rfl, rfl, rfl, rfl⟩, id, fun ht => ht.setMap hmode (by rw [hrole]; rfl) _⟩
  | activated => exact .inl (becomeActiveMarked_routine s)
  | stoodBy => exact .inl (changeRole_routine .standby s)
  | unfenced => exact .inl (changeRole_routine .unassigned s)
  | withdrawn => exact .inl (withdrawRole_routine s)
  | promotedFenced => exact .inl (completePromotion_routine s)
  | promoted => exact .inl (startPromotion_routine s)
  | handedOver => exact .inl (startHandover_routine s)
  | linkEnabled => exact .inl (enableLink_routine s)
  | linkDisabled => exact .inl (disableLink_routine s)
  | checkpointOpened => exact .inl (.refl s)
  | pathWritten p hp => exact .inr (.inr (.inr ⟨p, hp, rfl⟩))

theorem DeskOnly.routine {s t : State} (h : DeskOnly s t) : Routine s t := by
  unfold DeskOnly at h
  rw [h]
  exact Routine.refl s

end Sys2Proof.Machine

namespace Sys2Proof.Machine

open Sys2Proof

/-! # The memory, the waiting commands, the tracks and the bus (O2, O7, O58 to O60) -/

/-- An event leaves the waiting commands. -/
theorem Event.pending {c : Instr} {s u : State} (h : Event s c u) : u.pending = s.pending := by
  obtain ⟨⟨-, hp, -⟩, -⟩ | ⟨-, p, -, ⟨-, hp, -⟩, -⟩ | ⟨w, new, rfl, hrange⟩ | ⟨p, -, rfl⟩ := h.routine
  · exact hp
  · exact hp
  · exact (changeWindow_keeps w new s hrange).1.2.1
  · rfl

/-- An event leaves memory, but for a completion, which makes of it what the port's access says. -/
theorem Event.mem {c : Instr} {s u : State} (h : Event s c u) :
    u.mem = s.mem ∨ (c = .downstreamCompletion ∧ ∃ a, u.mem = memoryAfter s a) := by
  obtain ⟨⟨hm, -⟩, -⟩ | ⟨hc, p, -, ⟨hm, -⟩, -⟩ | ⟨w, new, rfl, hrange⟩ | ⟨p, -, rfl⟩ := h.routine
  · exact .inl hm
  · exact .inr ⟨hc, p.access, hm⟩
  · exact .inl (changeWindow_keeps w new s hrange).1.1
  · exact .inl rfl

theorem Event.busFits {c : Instr} {s u : State} (h : Event s c u) (hs : BusFits s) : BusFits u := by
  obtain ⟨-, hb, -⟩ | ⟨-, p, -, -, hb, -⟩ | ⟨w, new, rfl, hrange⟩ | ⟨p, -, rfl⟩ := h.routine
  · exact hb hs
  · exact hb hs
  · exact (changeWindow_keeps w new s hrange).2.1 hs
  · exact hs

theorem Event.tracksHome {c : Instr} {s u : State} (h : Event s c u) (hs : TracksHome s) : TracksHome u := by
  obtain ⟨-, -, ht⟩ | ⟨-, p, -, -, -, ht⟩ | ⟨w, new, rfl, hrange⟩ | ⟨p, -, rfl⟩ := h.routine
  · exact ht hs
  · exact ht hs
  · exact (changeWindow_keeps w new s hrange).2.2 hs
  · exact hs

/-! ## The resets (R160, R161) -/

theorem softReset_mem (s : State) : (softReset s).mem = s.mem := (representHeld_routine s).1.1

theorem softReset_pending (s : State) : (softReset s).pending = s.pending := (representHeld_routine s).1.2.1

/-- SOFT RESET lets an upstream access go on and a held write request again (R21, R160). -/
theorem softReset_busFits {s : State} (hs : BusFits s) : BusFits (softReset s) := by
  have hport := (portMatches_iff s).1 hs.1
  have hdropped : (∃ p, (softReset s).port = some p ∧ p.owner = .upstream) ↔ ∃ p, s.port = some p ∧ p.owner = .upstream := by
    simp only [softReset]
    cases s.port with
    | none => simp
    | some p =>
      obtain ⟨o, a⟩ := p
      cases o <;> simp [dropInternal]
  refine ⟨(portMatches_iff _).2 ?_, (stallMatches_iff _).2 ?_⟩
  · rw [hdropped, ← hport]
    show (∃ a, (representHeld s).upstream = .inProgress a) ↔ _
    unfold representHeld
    split
    next hu => simp [hu]
    all_goals rfl
  · show _ ↔ ∃ a w, (representHeld s).upstream = .held a w .stall
    obtain ⟨a, w, r, -, h⟩ | ⟨hno, h⟩ := representHeld_spec s <;> rw [h]
    · simp [softReset]
    · simp [softReset, hno]

theorem softReset_tracksHome (s : State) : TracksHome (softReset s) := by
  refine (tracksHome_iff _).2 ⟨fun w => .inl ?_, .inl rfl, nofun⟩
  simp [softReset]

theorem pinReset_busFits (s : State) : BusFits (pinReset s) := ⟨rfl, rfl⟩

theorem pinReset_tracksHome (s : State) : TracksHome (pinReset s) :=
  (tracksHome_iff _).2 ⟨fun w => .inl (by simp [pinReset, State.reset]), .inl rfl, nofun⟩

/-! ## Every command -/

/-- Every command leaves the waiting commands. -/
theorem Effect.pending {c : Instr} {s t : State} (h : Effect c s t) : t.pending = s.pending := by
  cases h with
  | desk h => exact h.routine.1.2.1
  | event he h => rw [h.routine.1.2.1, (settle_routine _ _).1.2.1, he.pending]
  | unsettled hu h =>
    rw [h.routine.1.2.1]
    cases hu with
    | presented a => exact (present_routine a s).1.2.1
    | recDecided => exact (decideRec_routine s).1.2.1
    | linkWritten p hp => rfl
    | softReset => exact softReset_pending s
    | pinReset => rfl

/-- What a command makes of memory (R150, R161). -/
theorem Effect.mem {c : Instr} {s t : State} (h : Effect c s t) :
    t.mem = s.mem ∨ (c = .downstreamCompletion ∧ ∃ a, t.mem = memoryAfter s a) ∨
      (c = .resetPin ∧ t.mem = memoryAfterAbandon s) := by
  cases h with
  | desk h => exact .inl h.routine.1.1
  | event he h =>
    rw [h.routine.1.1, (settle_routine _ _).1.1]
    exact he.mem.imp_right .inl
  | unsettled hu h =>
    rw [h.routine.1.1]
    cases hu with
    | presented a => exact .inl (present_routine a s).1.1
    | recDecided => exact .inl (decideRec_routine s).1.1
    | linkWritten p hp => exact .inl rfl
    | softReset => exact .inl (softReset_mem s)
    | pinReset => exact .inr (.inr ⟨rfl, rfl⟩)

theorem Effect.busFits {c : Instr} {s t : State} (h : Effect c s t) (hs : BusFits s) : BusFits t := by
  cases h with
  | desk h => exact h.routine.2.1 hs
  | event he h => exact h.routine.2.1 ((settle_routine s _).2.1 (he.busFits hs))
  | unsettled hu h =>
    refine h.routine.2.1 ?_
    cases hu with
    | presented a => exact (present_routine a s).2.1 hs
    | recDecided => exact (decideRec_routine s).2.1 hs
    | linkWritten p hp => exact hs
    | softReset => exact softReset_busFits hs
    | pinReset => exact pinReset_busFits s

theorem Effect.tracksHome {c : Instr} {s t : State} (h : Effect c s t) (hs : TracksHome s) : TracksHome t := by
  cases h with
  | desk h => exact h.routine.2.2 hs
  | event he h => exact h.routine.2.2 ((settle_routine s _).2.2 (he.tracksHome hs))
  | unsettled hu h =>
    refine h.routine.2.2 ?_
    cases hu with
    | presented a => exact (present_routine a s).2.2 hs
    | recDecided => exact (decideRec_routine s).2.2 hs
    | linkWritten p hp => exact hs
    | softReset => exact softReset_tracksHome s
    | pinReset => exact pinReset_tracksHome s

/-! ## The rejoin delay (R52) -/

/-- The end of an event makes the rejoin delay run exactly while its conditions hold. -/
theorem settle_rejoinMatches (before s : State) : rejoinMatches (settle before s) = true := by
  have hnote := noteSync_frame before (settleRejoin (settleRun before (settleRequest before (startTrack s))))
  have hsame := congrArg rejoinMatches hnote
  have hset (t : State) : rejoinMatches (settleRejoin t) = true := by
    have hcond : joinConditions (settleRejoin t) = joinConditions t := rfl
    rw [rejoinMatches, hcond]
    cases h : joinConditions t <;> simp [settleRejoin, h]
  exact hsame.trans (hset _)

theorem DeskOnly.rejoinMatches {s t : State} (h : DeskOnly s t) : rejoinMatches t = rejoinMatches s := by
  unfold DeskOnly at h
  rw [h]
  rfl

/-- A presented access leaves the link and the role. -/
theorem present_rejoinMatches (a : Access) (s : State) : rejoinMatches (present a s) = rejoinMatches s := by
  unfold present
  (repeat' split) <;> rfl

/-- A REC decision leaves link state, flags and role. -/
theorem decideRec_rejoinMatches (s : State) : rejoinMatches (decideRec s) = rejoinMatches s := by
  unfold decideRec transmitFirst retransmit
  dsimp only
  (repeat' split) <;> rfl

theorem Effect.rejoinMatches {c : Instr} {s t : State} (h : Effect c s t) (hs : rejoinMatches s = true) :
    rejoinMatches t = true := by
  cases h with
  | desk h => rw [h.rejoinMatches, hs]
  | event he h => rw [h.rejoinMatches, settle_rejoinMatches]
  | unsettled hu h =>
    rw [h.rejoinMatches]
    cases hu with
    | presented a => rw [present_rejoinMatches, hs]
    | recDecided => rw [decideRec_rejoinMatches, hs]
    | linkWritten p hp => exact hs
    | softReset => rfl
    | pinReset => rfl

/-! ## The statements -/

/-- Settles O60: memory is left, or takes an access, at a completion or as abandoned by RESET#; each keeps the canonical form. -/
theorem memoryStaysCanonical : Obligations.MemoryStaysCanonical := by
  refine fun s t hs ht => step_keeps (P := fun s => memoryCanonical s = true) (fun _ _ h => h) (fun h hs => ?_) ht hs
  obtain hm | ⟨-, a, hm⟩ | ⟨-, hm⟩ := h.mem <;> rw [memoryCanonical, hm]
  · exact hs
  · exact wf_memoryAfter hs a
  · exact wf_memoryAfterAbandon hs

/-- Settles O59: bus and stall limit are kept by every event and every command, and the rejoin delay is set at the end of each. -/
theorem portAndTimersStayMatched : Obligations.PortAndTimersStayMatched := by
  intro s t hport hstall hrejoin ht
  obtain ⟨hbus, hrejoin⟩ := step_keeps (P := fun s => BusFits s ∧ rejoinMatches s = true) (fun _ _ h => h)
    (fun h hs => ⟨h.busFits hs.1, h.rejoinMatches hs.2⟩) ht ⟨⟨hport, hstall⟩, hrejoin⟩
  exact ⟨hbus.1, hbus.2, hrejoin⟩

/-- Settles O58: marks and walk stay home in every event and every command. -/
theorem tracksStayHome : Obligations.TracksStayHome := fun _ _ hmaps hresync ht =>
  step_keeps (P := TracksHome) (fun _ _ h => h) Effect.tracksHome ht ⟨hmaps, hresync⟩

/-- Every command answers a next state: those of the table are `whenLive` or a reset. -/
theorem exec_answers (c : Instr) (s : State) : ∃ t, exec c s = .next t := by
  cases c <;> exact ⟨_, rfl⟩

/-- Settles O2: the answer is one of the effects, and none of them touches the queue. -/
theorem everyCommandAnswers : Obligations.EveryCommandAnswers := by
  intro c s
  obtain ⟨t, ht⟩ := exec_answers c s
  exact ⟨t, ht, (exec_hasEffect c s t ht).pending⟩

/-- Settles O7: but for a completion and RESET# every effect leaves memory, and an abandoned access is carried out or not. -/
theorem memoryChangesOnlyAtCompletion : Obligations.MemoryChangesOnlyAtCompletion := by
  constructor
  · intro i s t hcompletion hpin ht
    obtain hm | ⟨rfl, -⟩ | ⟨rfl, -⟩ := (exec_hasEffect i s t ht).mem
    · exact hm
    · exact absurd rfl hcompletion
    · exact absurd rfl hpin
  · rintro s _ ⟨⟩
    show memoryAfterAbandon s = s.mem ∨ ∃ p, _ ∧ _ ∧ memoryAfterAbandon s = _
    unfold memoryAfterAbandon
    cases hp : s.port with
    | none => exact .inl rfl
    | some p =>
      cases hk : p.access.kind with
      | read => simp [hk]
      | write =>
        by_cases hlands : Config.abandonedWriteLands s.freeCount
        · exact .inr ⟨p, rfl, hk, by simp [hk, hlands, memoryAfter]⟩
        · exact .inl (by simp [hk, hlands])

end Sys2Proof.Machine

/-! # The outline of the part: journal, link and apply queue

The invariants of journal, link and apply queue read little of the state: the sequences of the entries, role and link state, whether the two
timers of the association run, and the two ends of each direction.  `outline` projects a state to that; each procedure has one equation over the
outline, and most of them leave it as it is. -/

namespace Sys2Proof.Machine

open Sys2Proof

/-- The sequence of a SENT entry. -/
def EntryState.sequence : EntryState → Option Byte
  | .sent q _ => some q
  | .filling | .pending => none

/-- What the invariants of journal, link and apply queue read. -/
structure Outline where
  seqs : List (Option Byte)
  role : Role
  link : LinkState
  reply : Bool
  quiet : Bool
  ackPoint : Byte
  sendPoint : Byte
  queue : List Byte
  receiveNext : Byte
  appliedNext : Byte
  holding : Bool
  window : Nat

def sequences (es : List Entry) : List (Option Byte) := es.map fun e => e.state.sequence

/-- The quiet timer runs, or stays expired. -/
def QuietTimer.stands : QuietTimer → Bool
  | .stopped => false
  | .running _ | .expired => true

/-- The outline of a state. -/
def outline (s : State) : Outline :=
  { seqs := sequences s.journal, role := s.role, link := s.link.state, reply := s.link.replyTimer.isSome
    quiet := s.link.quietTimer.stands, ackPoint := s.link.ackPoint, sendPoint := s.link.sendPoint
    queue := s.standby.queue.map Received.tseq, receiveNext := s.standby.receiveNext, appliedNext := s.standby.appliedNext
    holding := s.standby.holding, window := s.linkParams.window.toNat }

/-! ## The operations that leave the outline -/

@[simp] theorem outline_setCause (c : Cause) (s : State) : outline (setCause c s) = outline s := rfl

@[simp] theorem outline_countMerged (w : WindowId) (s : State) : outline (countMerged w s) = outline s := rfl

@[simp] theorem outline_fullMarking (s : State) : outline (fullMarking s) = outline s := rfl

@[simp] theorem outline_recordLoss (reason : LossReason) (peer : Option PartReason) (s : State) :
    outline (recordLoss reason peer s) = outline s := rfl

@[simp] theorem outline_representHeld (s : State) : outline (representHeld s) = outline s :=
  (congrArg outline (representHeld_frame s) :)

@[simp] theorem outline_representStalled (s : State) : outline (representStalled s) = outline s :=
  (congrArg outline (representStalled_frame s) :)

@[simp] theorem outline_faultHeld (s : State) : outline (faultHeld s) = outline s := (congrArg outline (faultHeld_frame s) :)

@[simp] theorem outline_sendFrame (f : Frame) (s : State) : outline (sendFrame f s) = outline s := by
  obtain ⟨-, -, h⟩ | ⟨-, h⟩ := sendFrame_spec f s <;> rw [h] <;> rfl

@[simp] theorem outline_sendClosed (s : State) : outline (sendClosed s) = outline s := by
  unfold sendClosed
  split <;> simp

@[simp] theorem outline_denyConflict (session : Byte) (s : State) : outline (denyConflict session s) = outline s := by
  simp [denyConflict]

@[simp] theorem outline_sendAsk (s : State) : outline (sendAsk s) = outline s := outline_sendFrame _ _

@[simp] theorem outline_sendAck (final : Bool) (s : State) : outline (sendAck final s) = outline s := outline_sendFrame _ _

@[simp] theorem outline_sendResend (s : State) : outline (sendResend s) = outline s := outline_sendFrame _ _

@[simp] theorem outline_reportCompletion (leavesHold : Bool) (s : State) : outline (reportCompletion leavesHold s) = outline s := by
  unfold reportCompletion
  extract_lets _ counted
  have hcounted : outline counted = outline s := rfl
  split
  · split
    · exact (outline_sendResend counted).trans hcounted
    · exact (outline_sendAck false counted).trans hcounted
  split
  · exact (outline_sendAck false counted).trans hcounted
  · exact hcounted

@[simp] theorem outline_discardRecord (s : State) : outline (discardRecord s) = outline s := by
  unfold discardRecord
  split
  · rfl
  · exact outline_sendResend _

@[simp] theorem outline_discardFrame (s : State) : outline (discardFrame s) = outline s := by
  unfold discardFrame
  split <;> rfl

@[simp] theorem outline_resyncStop (s : State) : outline (resyncStop s) = outline s := (congrArg outline (resyncStop_frame s) :)

@[simp] theorem outline_noteSync (before s : State) : outline (noteSync before s) = outline s :=
  (congrArg outline (noteSync_frame before s) :)

@[simp] theorem outline_completeMark (s : State) (e : Entry) : outline (completeMark s e) = outline s := by
  unfold completeMark
  split <;> rfl

@[simp] theorem outline_completeMarks (es : List Entry) (s : State) : outline (es.foldl completeMark s) = outline s := by
  induction es generalizing s with
  | nil => rfl
  | cons e es ih => rw [List.foldl_cons, ih, outline_completeMark]

@[simp] theorem outline_answerDeferred (s : State) : outline (answerDeferred s) = outline s := by
  unfold answerDeferred
  split
  · exact outline_sendFrame _ _
  · exact outline_sendFrame _ _
  · exact outline_denyConflict _ _
  · rfl

@[simp] theorem outline_settle (before s : State) : outline (settle before s) = outline s := by
  unfold settle
  rw [outline_noteSync]
  calc outline (settleRejoin (settleRun before (settleRequest before (startTrack s))))
      = outline (settleRun before (settleRequest before (startTrack s))) := rfl
    _ = outline (settleRequest before (startTrack s)) := (congrArg outline (settleRun_frame before _) :)
    _ = outline (startTrack s) := (congrArg outline (settleRequest_frame before _) :)
    _ = outline s := (congrArg outline (startTrack_frame s) :)

@[simp] theorem outline_changeWindow (w : WindowId) (new : Window) (s : State) : outline (changeWindow w new s) = outline s := by
  have htracked : outline (windowTracked w new s) = outline s := (congrArg outline (windowTracked_frame w new s) :)
  rw [changeWindow_eq]
  split <;> simp [htracked]

theorem DeskOnly.outline {s t : State} (h : DeskOnly s t) : outline t = outline s := by
  unfold DeskOnly at h
  rw [h]
  rfl

/-! ## The journal's lists -/

theorem sequences_takeWord (word : WordData) (last : Bool) (s : State) :
    sequences (takeWord word last s).journal = sequences s.journal := by
  unfold sequences takeWord
  rw [List.map_map]
  refine List.map_congr_left fun e _ => ?_
  obtain ⟨b, x⟩ := e
  cases b with
  | fill w l data =>
    cases x with
    | filling => cases last <;> rfl
    | pending => rfl
    | sent q n => rfl
  | write w l bytes => rfl
  | mark tag slot => rfl
  | takeover => rfl

theorem sequences_mergeYoungest (new : List (Nat × Byte)) (es : List Entry) : sequences (mergeYoungest new es) = sequences es := by
  induction es with
  | nil => rfl
  | cons e rest ih =>
    cases rest with
    | nil =>
      simp only [mergeYoungest]
      split <;> rfl
    | cons e' rest' => exact congrArg (e.state.sequence :: ·) ih

theorem sequences_raiseSendCount (q : Byte) (es : List Entry) : sequences (raiseSendCount q es) = sequences es := by
  unfold sequences raiseSendCount
  rw [List.map_map]
  refine List.map_congr_left fun e _ => ?_
  obtain ⟨b, x⟩ := e
  cases x with
  | filling => rfl
  | pending => rfl
  | sent x n => by_cases hx : x = q <;> simp [hx, EntryState.sequence]

/-- The first place without a sequence is given one. -/
def fillFirst (q : Byte) : List (Option Byte) → List (Option Byte)
  | [] => []
  | none :: rest => some q :: rest
  | some x :: rest => some x :: fillFirst q rest

theorem sequences_setFirstUnsent (q : Byte) (n : Nat) (es : List Entry) :
    sequences (setFirstUnsent (.sent q n) es) = fillFirst q (sequences es) := by
  induction es with
  | nil => rfl
  | cons e rest ih =>
    obtain ⟨b, x⟩ := e
    cases x with
    | filling => rfl
    | pending => rfl
    | sent x k => exact congrArg (some x :: ·) ih

theorem none_mem_sequences {es : List Entry} {e : Entry} (h : firstUnsent es = some e) : none ∈ sequences es := by
  induction es with
  | nil => nomatch h
  | cons x rest ih =>
    obtain ⟨b, y⟩ := x
    cases y with
    | filling => exact .head _
    | pending => exact .head _
    | sent q k => exact .tail _ (ih h)

theorem sentEntries_eq (s : State) : sentEntries s = (sequences s.journal).countP Option.isSome := by
  rw [sentEntries, sequences, List.countP_map]
  congr 1
  funext e
  obtain ⟨b, x⟩ := e
  cases x <;> rfl

/-- An acknowledged place carries a sequence before ASEQ. -/
def acknowledged (a n : Byte) (q : Option Byte) : Bool := q.any (seqBefore a n)

theorem sequences_filter (a n : Byte) (es : List Entry) :
    sequences (es.filter fun e => !e.state.isBefore a n) = (sequences es).filter fun q => !acknowledged a n q := by
  rw [sequences, sequences, List.filter_map]
  congr 2
  funext e
  obtain ⟨b, x⟩ := e
  cases x <;> rfl

theorem sequences_placeMark {tag : Byte} {i : SlotId} (s : State) :
    sequences (placeMark { body := .mark tag i, state := .pending } s).journal = sequences s.journal ++ [none] := by
  unfold placeMark takeoverPending
  split
  next hlast =>
    obtain ⟨older, hjournal⟩ := List.getLast?_eq_some_iff.1 hlast
    simp [sequences, hjournal, EntryState.sequence]
  next => simp [sequences, EntryState.sequence]

/-! ## The operations that write it -/

@[simp] theorem outline_startReply (s : State) : outline (startReply s) = { outline s with reply := true } := rfl

@[simp] theorem outline_stopReply (s : State) : outline (stopReply s) = { outline s with reply := false } := rfl

@[simp] theorem outline_enterLinkState (x : LinkState) (s : State) :
    outline (enterLinkState x s) = { outline s with link := x } := by
  rw [enterLinkState_spec]
  (repeat' split) <;> simp only [outline_representHeld] <;> rfl

@[simp] theorem outline_leaveLink (reason : PartReason) (s : State) :
    outline (leaveLink reason s) = { outline s with link := .leaving, reply := true } := by simp [leaveLink]

@[simp] theorem outline_endLeaving (s : State) :
    outline (endLeaving s) = { outline s with link := if s.link.enable then .idle else .offline, reply := false } := by
  simp [endLeaving]

@[simp] theorem outline_zeroSequence (s : State) :
    outline (zeroSequence s) =
      { outline s with ackPoint := 0#8, sendPoint := 0#8, receiveNext := 0#8, appliedNext := 0#8 } := rfl

@[simp] theorem outline_startStandbySide (acceptRepeat : Bool) (s : State) :
    outline (startStandbySide acceptRepeat s) = { outline s with holding := false } := rfl

@[simp] theorem outline_appendEntry (e : Entry) (s : State) :
    outline (appendEntry e s) = { outline s with seqs := sequences s.journal ++ [e.state.sequence] } := by
  simp [outline, appendEntry, sequences]

theorem enterRecovery_outline (s : State) : outline (enterRecovery s) = { outline s with link := .recovery, reply := true } := by
  unfold enterRecovery
  rw [outline_startReply, outline_sendAsk]
  exact congrArg (fun x : Outline => { x with reply := true }) (outline_enterLinkState .recovery s)

/-- A change of role empties the journal where it leaves the active side (R43). -/
def Outline.assign (new : Role) (x : Outline) : Outline :=
  { x with role := new, seqs := if x.role.activeSide = true ∧ new.activeSide = false then [] else x.seqs }

theorem Outline.assign_of_empty {x : Outline} (h : x.seqs = []) (new : Role) : x.assign new = { x with role := new } := by
  rw [assign, h, ite_self, ← h]

theorem outline_emptyOnLeavingSide (new : Role) (s : State) :
    outline (emptyOnLeavingSide new s) =
      { outline s with
        seqs := if s.role.activeSide = true ∧ new.activeSide = false then [] else sequences s.journal } := by
  unfold emptyOnLeavingSide
  split <;> rfl

theorem outline_changeRole (new : Role) (s : State) : outline (changeRole new s) = (outline s).assign new := by
  have hstopped : outline (stopOnLeavingActive new s) = outline s := by
    unfold stopOnLeavingActive
    split <;> simp
  have hemptied := outline_emptyOnLeavingSide new (stopOnLeavingActive new s)
  rw [stopOnLeavingActive_role, hstopped,
    show sequences (stopOnLeavingActive new s).journal = (outline s).seqs from congrArg Outline.seqs hstopped] at hemptied
  unfold changeRole
  rw [outline_answerDeferred, outline_representHeld]
  exact congrArg (fun x : Outline => { x with role := new }) hemptied

theorem outline_becomeActiveMarked (s : State) : outline (becomeActiveMarked s) = { outline s with role := .active } := by
  rw [becomeActiveMarked, outline_fullMarking, outline_changeRole, Outline.assign, if_neg (by simp [Role.activeSide])]

theorem outline_completePromotion (s : State) : outline (completePromotion s) = { outline s with role := .active } := by
  rw [completePromotion, outline_setCause, outline_becomeActiveMarked]

theorem outline_flush (s : State) : outline (flush s) = { outline s with seqs := [] } :=
  (congrArg (fun x => { outline x with seqs := [] }) (flush_frame s) :)

/-- The role after a loss on the active side (R135). -/
def roleAfterLoss (sent : Bool) (old : Role) : Role :=
  if old = .handingOver then (if sent then .fenced else .active) else old

theorem outline_decideHandover (sent : Bool) {s : State} (hseqs : (outline s).seqs = []) :
    outline (decideHandover sent s) = { outline s with role := roleAfterLoss sent s.role } := by
  unfold decideHandover roleAfterLoss
  split
  next hr =>
    cases sent with
    | true =>
      have hfaulted : outline { faultHeld s with handoverTimer := none } = outline s := outline_faultHeld s
      rw [if_pos rfl, if_pos rfl, outline_setCause, outline_setCause, outline_changeRole, hfaulted, Outline.assign_of_empty hseqs]
    | false =>
      have hstopped : outline { s with handoverTimer := none } = outline s := rfl
      rw [if_neg nofun, if_neg nofun, outline_setCause, outline_changeRole, hstopped, Outline.assign_of_empty hseqs]
  next => rfl

theorem outline_activeLoss (reason : LossReason) (peer : Option PartReason) (s : State) :
    outline (activeLoss reason peer s) =
      { outline s with seqs := [], reply := false, quiet := false, role := roleAfterLoss (takeoverSent s) s.role } := by
  unfold activeLoss
  extract_lets lost _ quiet flushed decided
  have hflushed : outline flushed = { outline s with seqs := [], reply := false, quiet := false } := by
    unfold flushed
    rw [outline_noteSync, outline_resyncStop, outline_flush]
    rfl
  have hrole : flushed.role = s.role := congrArg Outline.role hflushed
  have hseqs : (outline flushed).seqs = [] := congrArg Outline.seqs hflushed
  have hdecided : outline decided = _ := outline_decideHandover (takeoverSent s) hseqs
  rw [hrole, hflushed] at hdecided
  clear_value decided
  exact hdecided

theorem outline_standbyLoss (reason : LossReason) (peer : Option PartReason) (s : State) :
    outline (standbyLoss reason peer s) = outline s := rfl

/-- The entry to UP on the active side (R59). -/
theorem outline_enterUpActive (s : State) :
    outline (enterUpActive s) =
      { outline s with
        link := .up, ackPoint := 0#8, sendPoint := 0#8, receiveNext := 0#8, appliedNext := 0#8, reply := false
        quiet := (quietStarted s.linkParams).stands } := by
  have hup := outline_enterLinkState .up s
  obtain ⟨⟨-, -, -, hparams, -⟩, -⟩ := enterLinkState_routine .up s
  unfold enterUpActive
  generalize enterLinkState .up s = t at hup hparams ⊢
  rw [← hparams]
  exact congrArg (fun x : Outline =>
    { x with
      ackPoint := 0#8, sendPoint := 0#8, receiveNext := 0#8, appliedNext := 0#8, reply := false
      quiet := (quietStarted t.linkParams).stands }) hup

/-- The entry to UP on the standby side (R59). -/
theorem outline_acceptJoin (session : Byte) (s : State) :
    outline (acceptJoin session s) =
      { outline s with
        link := .up, ackPoint := 0#8, sendPoint := 0#8, receiveNext := 0#8, appliedNext := 0#8, holding := false } := by
  have hup := outline_enterLinkState .up (sendFrame (.accept session) s)
  rw [outline_sendFrame] at hup
  unfold acceptJoin
  generalize enterLinkState .up (sendFrame (.accept session) s) = t at hup ⊢
  exact congrArg (fun x : Outline =>
    { x with ackPoint := 0#8, sendPoint := 0#8, receiveNext := 0#8, appliedNext := 0#8, holding := false }) hup

/-- The old active part at the end of a handover (R133). -/
theorem outline_completeHandover {s : State} (hside : s.role.activeSide = true) :
    outline (completeHandover s) =
      { outline s with
        seqs := [], role := .standby, link := .up, ackPoint := 0#8, sendPoint := 0#8, receiveNext := 0#8, appliedNext := 0#8
        holding := false, reply := false, quiet := false } := by
  unfold completeHandover
  extract_lets _ changed zeroed
  have hchanged : outline changed = { outline s with role := .standby, seqs := [] } := by
    have hfaulted : outline { faultHeld s with handoverTimer := none } = outline s := outline_faultHeld s
    unfold changed
    rw [outline_changeRole, hfaulted, Outline.assign, if_pos ⟨hside, rfl⟩]
  have hzeroed : outline zeroed = _ := outline_zeroSequence (enterLinkState .up changed)
  rw [outline_enterLinkState, hchanged] at hzeroed
  clear_value zeroed
  exact congrArg (fun x : Outline => { x with holding := false, reply := false, quiet := false }) hzeroed

theorem outline_removeAcknowledged (aseq : Byte) (s : State) :
    outline (removeAcknowledged aseq s) =
      { outline s with
        seqs := (outline s).seqs.filter fun q => !acknowledged s.link.ackPoint aseq q
        ackPoint := aseq } := by
  unfold removeAcknowledged
  extract_lets gone _ kept told
  have hkept : outline kept =
      { outline s with
        seqs := (outline s).seqs.filter fun q => !acknowledged s.link.ackPoint aseq q
        ackPoint := aseq } :=
    congrArg (fun q => { outline s with seqs := q, ackPoint := aseq }) (sequences_filter s.link.ackPoint aseq s.journal)
  have htold : outline told = outline kept := outline_completeMarks gone kept
  split
  · rw [htold, hkept]
  · rw [outline_representStalled, htold, hkept]

/-- The valid frames of an association restart the quiet timer of the active side (R77). -/
theorem outline_heard (s : State) :
    outline (heard s) =
      if s.link.state.associated = true ∧ s.role.activeSide = true then
        { outline s with quiet := (quietStarted s.linkParams).stands }
      else outline s := by
  unfold heard
  split
  next ha =>
    split
    next hr => rw [if_pos ⟨ha, hr⟩]; rfl
    next hr =>
      rw [if_neg (c := _ ∧ _) fun h => hr h.2]
      split <;> rfl
  next ha => rw [if_neg fun h => ha h.1]

theorem outline_heardOther (s : State) : outline (heardOther s) = outline (heard s) := by
  unfold heardOther
  split
  · rfl
  next h =>
    rw [heard, if_neg h]

end Sys2Proof.Machine

/-! # The moves of the outline

An event changes the outline by a few moves; each says what it needs of the outline and nothing else.  The invariants of journal, link and apply
queue are kept move by move. -/

namespace Sys2Proof.Machine

open Sys2Proof

/-- The part is the active side of an association. -/
def Outline.leads (x : Outline) : Prop := x.role.activeSide = true ∧ x.link.associated = true

/-- One move of the outline.  `asked` is what a grant of a first read knows of the request before it. -/
inductive Move (asked : Prop) (x : Outline) : Outline → Prop
  /-- An entry joins the journal at the young end. -/
  | appended (hhome : asked → x.leads) (hfree : x.seqs.length < 64) : Move asked x { x with seqs := x.seqs ++ [none] }
  /-- The youngest entry leaves. -/
  | takenBack (kept : List (Option Byte)) (hlast : x.seqs = kept ++ [none]) : Move asked x { x with seqs := kept }
  /-- The entries before ASEQ leave. -/
  | acknowledged (aseq : Byte) (hleads : x.leads) (haseq : seqInRange x.ackPoint x.sendPoint aseq = true) :
      Move asked x { x with seqs := x.seqs.filter fun q => !acknowledged x.ackPoint aseq q, ackPoint := aseq }
  /-- The oldest entry that is not SENT takes the send point. -/
  | sent (hleads : x.leads) (hsome : none ∈ x.seqs) (hroom : x.seqs.countP Option.isSome < x.window) :
      Move asked x { x with seqs := fillFirst x.sendPoint x.seqs, sendPoint := x.sendPoint + 1 }
  /-- A role of the active side follows another. -/
  | sideKept (new : Role) (hside : x.role.activeSide = true) (hnew : new = .active ∨ (new = .handingOver ∧ x.link = .up)) :
      Move asked x { x with role := new }
  /-- The active side is left without an association. -/
  | sideLeft (hside : x.role.activeSide = true) (hlink : x.link.associated = false) (hjoining : x.link ≠ .joining) :
      Move asked x { x with role := .unassigned, seqs := [] }
  /-- A role off the active side is given up. -/
  | assigned (new : Role) (hold : x.role = .unassigned ∨ x.role = .fenced ∨ x.role = .promoting ∨ (x.role = .standby ∧ x.link ≠ .up))
      (hnew : new ≠ .handingOver)
      (hqueue : new = .standby ∨ new = .promoting ∨ x.queue = [] ∨ x.role = .unassigned ∨ x.role = .fenced) :
      Move asked x { x with role := new }
  /-- The link turns where the part does not lead an association. -/
  | linkTurned (new : LinkState) (reply : Bool) (hold : ¬x.leads) (hnew : new.associated = false)
      (hjoining : new = .joining → x.role = .active)
      (hreply : reply = true →
        new = .joining ∨ new = .leaving ∨ (x.reply = true ∧ x.link ≠ .joining ∧ x.link ≠ .leaving)) :
      Move asked x { x with link := new, reply := reply }
  /-- The active side's association is lost. -/
  | lost (new : LinkState) (reply sent : Bool) (hside : x.role.activeSide = true)
      (hnew : (new = .idle ∧ reply = false) ∨ new = .leaving) :
      Move asked x
        { x with seqs := [], quiet := false, role := roleAfterLoss sent x.role, link := new, reply := reply }
  /-- RECOVERY is entered. -/
  | recovering (hup : x.link = .up) (htimer : x.reply = true ∨ x.quiet = true) :
      Move asked x { x with link := .recovery, reply := true }
  /-- RECOVERY ends in UP. -/
  | recovered (reply : Bool) (hleads : x.leads) : Move asked x { x with link := .up, reply := reply }
  /-- The reply timer is started or stopped. -/
  | replyTurned (reply : Bool) (hreply : reply = true → x.leads ∨ x.link = .joining ∨ x.link = .leaving) :
      Move asked x { x with reply := reply }
  /-- The quiet timer is started or stopped. -/
  | quietTurned (quiet : Bool) (hquiet : quiet = true → x.leads) : Move asked x { x with quiet := quiet }
  /-- The active side enters UP. -/
  | joined (quiet : Bool) (hjoining : x.link = .joining) :
      Move asked x
        { x with
          link := .up, ackPoint := 0#8, sendPoint := 0#8, receiveNext := 0#8, appliedNext := 0#8, reply := false
          quiet := quiet }
  /-- The standby side enters UP. -/
  | accepted (hrole : x.role = .standby) (hqueue : x.queue = []) (hidle : x.link = .idle) :
      Move asked x
        { x with
          link := .up, ackPoint := 0#8, sendPoint := 0#8, receiveNext := 0#8, appliedNext := 0#8, holding := false }
  /-- A TAKEOVER is applied in UP. -/
  | tookOver (quiet : Bool) (hrole : x.role = .standby) (hup : x.link = .up) :
      Move asked x
        { x with
          role := .active, queue := [], holding := false, ackPoint := 0#8, sendPoint := 0#8, receiveNext := 0#8
          appliedNext := 0#8, reply := false, quiet := quiet }
  /-- A handover completes. -/
  | stoodDown (hleads : x.leads) :
      Move asked x
        { x with
          seqs := [], role := .standby, link := .up, ackPoint := 0#8, sendPoint := 0#8, receiveNext := 0#8
          appliedNext := 0#8, holding := false, reply := false, quiet := false }
  /-- A record joins the apply queue. -/
  | queued (hup : x.link = .up) (hside : x.role.activeSide = false) (hroom : x.queue.length < 16) :
      Move asked x
        { x with
          queue := x.queue ++ [x.receiveNext], receiveNext := x.receiveNext + 1
          holding := x.holding || x.queue.length == 11 }
  /-- The oldest record is applied. -/
  | applied (hqueue : x.queue ≠ []) :
      Move asked x
        { x with
          queue := x.queue.tail, appliedNext := x.appliedNext + 1
          holding := x.holding && !(x.queue.tail.length == 4) }
  /-- The apply queue is discarded. -/
  | dropped (next : Byte) (hnext : next = x.receiveNext ∨ (x.queue.length = 1 ∧ next = x.appliedNext + 1)) :
      Move asked x { x with queue := [], appliedNext := next, holding := false }

/-- The moves of an event, one after another. -/
abbrev Moves (asked : Prop) : Outline → Outline → Prop := Relation.ReflTransGen (Move asked)

theorem Moves.keep {asked : Prop} {P : Outline → Prop} (hP : ∀ x y, Move asked x y → P x → P y) {x y : Outline}
    (h : Moves asked x y) (hx : P x) : P y := by
  induction h with
  | refl => exact hx
  | tail _ hyz ih => exact hP _ _ hyz ih

/-! ## The journal at home (R22, R26) -/

/-- Entries only where the part leads an association. -/
def Outline.Home (x : Outline) : Prop := x.seqs = [] ∨ x.leads

theorem Outline.Home.nil_of {x : Outline} (h : x.Home) (hleads : ¬x.leads) : x.seqs = [] := h.resolve_right hleads

theorem length_fillFirst (q : Byte) (l : List (Option Byte)) : (fillFirst q l).length = l.length := by
  induction l with
  | nil => rfl
  | cons a rest ih =>
    cases a with
    | none => rfl
    | some x => exact congrArg (· + 1) ih

/-- At most 64 entries stand in the journal (R22). -/
theorem Move.fits {asked : Prop} {x y : Outline} (h : Move asked x y) (hx : x.seqs.length ≤ 64) : y.seqs.length ≤ 64 := by
  cases h with
  | appended hleads hfree => simpa using hfree
  | takenBack kept hlast =>
    rw [hlast, List.length_append] at hx
    exact (Nat.le_add_right _ _).trans hx
  | acknowledged aseq hleads haseq => exact (List.length_filter_le _ _).trans hx
  | sent hleads hsome hroom => exact (length_fillFirst _ _).trans_le hx
  | sideLeft hside hlink hjoining => exact Nat.zero_le _
  | lost new reply sent hside hnew => exact Nat.zero_le _
  | stoodDown hleads => exact Nat.zero_le _
  | sideKept | assigned | linkTurned | recovering | recovered | replyTurned | quietTurned | joined | accepted | tookOver => exact hx
  | queued | applied | dropped => exact hx

/-- A journal with an entry stays on the active side of its association (R26). -/
theorem Move.home {asked : Prop} (hasked : asked) {x y : Outline} (h : Move asked x y) (hx : x.Home) : y.Home := by
  have off (hno : ¬x.leads) {z : Outline} (hz : z.seqs = x.seqs) : z.Home := .inl (hz.trans (hx.nil_of hno))
  cases h with
  | appended hleads hfree => exact .inr (hleads hasked)
  | takenBack kept hlast => exact .inr (hx.resolve_left (by simp [hlast]))
  | acknowledged aseq hleads haseq => exact .inr hleads
  | sent hleads hsome hroom => exact .inr hleads
  | sideKept new hside hnew =>
    refine hx.imp_right fun hl => ⟨?_, hl.2⟩
    obtain rfl | ⟨rfl, -⟩ := hnew <;> rfl
  | sideLeft hside hlink hjoining => exact .inl rfl
  | assigned new hold hnew hqueue =>
    refine off (fun hl => ?_) rfl
    have hside := hl.1
    obtain hr | hr | hr | ⟨hr, -⟩ := hold <;> rw [hr] at hside <;> nomatch hside
  | linkTurned new reply hold hnew hjoining hreply => exact off hold rfl
  | lost new reply sent hside hnew => exact .inl rfl
  | recovering hup htimer => exact hx.imp_right fun hl => ⟨hl.1, rfl⟩
  | recovered reply hleads => exact hx.imp_right fun hl => ⟨hl.1, rfl⟩
  | replyTurned | quietTurned => exact hx
  | joined quiet hjoining => exact off (fun hl => by have := hl.2; rw [hjoining] at this; nomatch this) rfl
  | accepted hrole hqueue hidle => exact off (fun hl => by have := hl.1; rw [hrole] at this; nomatch this) rfl
  | tookOver quiet hrole hup => exact off (fun hl => by have := hl.1; rw [hrole] at this; nomatch this) rfl
  | stoodDown hleads => exact .inl rfl
  | queued | applied | dropped => exact hx

/-! ## Roles and link states that go together (R7, R45, R53, R75, R77) -/

/-- The roles a link state belongs to. -/
def LinkState.suits (role : Role) : LinkState → Prop
  | .joining => role = .active
  | .recovery => role.activeSide = true
  | .up => role.activeSide = true ∨ role = .standby
  | .offline | .idle | .leaving => True

/-- The timers run where they may, and role and link state go together. -/
structure Outline.LinkFits (x : Outline) : Prop where
  quiet : x.quiet = true → x.leads
  reply : x.reply = true → x.link = .joining ∨ x.link = .leaving ∨ x.leads
  suits : x.link.suits x.role
  handing : x.role = .handingOver → x.link.associated = true

theorem Outline.LinkFits.quiet_false {x : Outline} (h : x.LinkFits) (hno : ¬x.leads) : x.quiet = false :=
  Bool.eq_false_iff.2 fun hq => hno (h.quiet hq)

/-- Off the active side the link is UP for STANDBY alone, and never in JOINING or RECOVERY. -/
theorem Outline.LinkFits.plain {x : Outline} (h : x.LinkFits) (hside : x.role.activeSide = false) (hup : x.link = .up → x.role ≠ .standby) :
    x.link = .offline ∨ x.link = .idle ∨ x.link = .leaving := by
  have hs := h.suits
  cases hl : x.link with
  | offline => exact .inl rfl
  | idle => exact .inr (.inl rfl)
  | leaving => exact .inr (.inr rfl)
  | joining =>
    rw [hl] at hs
    have : x.role = .active := hs
    rw [this] at hside
    nomatch hside
  | recovery =>
    rw [hl] at hs
    have : x.role.activeSide = true := hs
    rw [hside] at this
    nomatch this
  | up =>
    rw [hl] at hs
    obtain hs | hs := hs
    · rw [hside] at hs
      nomatch hs
    · exact absurd hs (hup hl)

theorem roleAfterLoss_ne (sent : Bool) (old : Role) : roleAfterLoss sent old ≠ .handingOver := by
  cases old <;> cases sent <;> decide

theorem Move.linkFits {asked : Prop} {x y : Outline} (h : Move asked x y) (hx : x.LinkFits) : y.LinkFits := by
  cases h with
  | appended | takenBack | acknowledged | sent | queued | applied | dropped => exact ⟨hx.quiet, hx.reply, hx.suits, hx.handing⟩
  | sideKept new hside hnew =>
    have hnewside : new.activeSide = true := by obtain rfl | ⟨rfl, -⟩ := hnew <;> rfl
    refine ⟨fun hq => ⟨hnewside, (hx.quiet hq).2⟩, fun hr => (hx.reply hr).imp_right (.imp_right fun hl => ⟨hnewside, hl.2⟩), ?_, ?_⟩
    · obtain rfl | ⟨rfl, hup⟩ := hnew
      · show x.link.suits .active
        have hs := hx.suits
        cases hl : x.link with
        | joining => rfl
        | recovery => rfl
        | up => exact .inl rfl
        | offline => trivial
        | idle => trivial
        | leaving => trivial
      · show x.link.suits .handingOver
        rw [hup]
        exact .inl rfl
    · intro hr
      obtain rfl | ⟨rfl, hup⟩ := hnew
      · nomatch hr
      · exact congrArg LinkState.associated hup
  | sideLeft hside hlink hjoining =>
    have hno : ¬x.leads := fun hl => by have := hl.2; rw [hlink] at this; nomatch this
    refine ⟨fun hq => absurd (hx.quiet hq) hno, fun hr => (hx.reply hr).imp_right (.imp_right fun hl => absurd hl hno), ?_, nofun⟩
    show x.link.suits .unassigned
    cases hl : x.link with
    | joining => exact absurd hl hjoining
    | recovery =>
      rw [hl] at hlink
      nomatch hlink
    | up =>
      rw [hl] at hlink
      nomatch hlink
    | offline => trivial
    | idle => trivial
    | leaving => trivial
  | assigned new hold hnew hqueue =>
    have hside : x.role.activeSide = false := by obtain hr | hr | hr | ⟨hr, -⟩ := hold <;> rw [hr] <;> rfl
    have hno : ¬x.leads := fun hl => by have := hl.1; rw [hside] at this; nomatch this
    have hplain := hx.plain hside fun hup hr => by
      obtain h | h | h | ⟨-, h⟩ := hold
      · rw [h] at hr; nomatch hr
      · rw [h] at hr; nomatch hr
      · rw [h] at hr; nomatch hr
      · exact h hup
    refine ⟨fun hq => absurd (hx.quiet hq) hno, fun hr => (hx.reply hr).imp_right (.imp_right fun hl => absurd hl hno), ?_, fun h => absurd h hnew⟩
    show x.link.suits new
    obtain h | h | h := hplain <;> rw [h] <;> trivial
  | linkTurned new reply hold hnew hjoining hreply =>
    have hnot : x.role ≠ .handingOver := fun hr => hold ⟨by rw [hr]; rfl, hx.handing hr⟩
    refine ⟨fun hq => absurd (hx.quiet hq) hold, fun hr => ?_, ?_, fun hr => absurd hr hnot⟩
    · obtain h | h | ⟨h, hj, hl⟩ := hreply hr
      · exact .inl h
      · exact .inr (.inl h)
      · obtain h' | h' | h' := hx.reply h
        · exact absurd h' hj
        · exact absurd h' hl
        · exact absurd h' hold
    · show new.suits x.role
      cases new with
      | joining => exact hjoining rfl
      | recovery => nomatch hnew
      | up => nomatch hnew
      | offline => trivial
      | idle => trivial
      | leaving => trivial
  | lost new reply sent hside hnew =>
    refine ⟨nofun, fun hr => ?_, ?_, fun h => absurd h (roleAfterLoss_ne _ _)⟩
    · obtain ⟨rfl, rfl⟩ | rfl := hnew
      · nomatch hr
      · exact .inr (.inl rfl)
    · obtain ⟨rfl, -⟩ | rfl := hnew <;> trivial
  | recovering hup htimer =>
    have hleads : x.leads := by
      obtain hr | hq := htimer
      · obtain h | h | h := hx.reply hr
        · rw [hup] at h; nomatch h
        · rw [hup] at h; nomatch h
        · exact h
      · exact hx.quiet hq
    exact ⟨fun _ => ⟨hleads.1, rfl⟩, fun _ => .inr (.inr ⟨hleads.1, rfl⟩), hleads.1, fun _ => rfl⟩
  | recovered reply hleads =>
    exact ⟨fun _ => ⟨hleads.1, rfl⟩, fun _ => .inr (.inr ⟨hleads.1, rfl⟩), .inl hleads.1, fun _ => rfl⟩
  | replyTurned reply hreply =>
    refine ⟨hx.quiet, fun hr => ?_, hx.suits, hx.handing⟩
    obtain h | h | h := hreply hr
    · exact .inr (.inr h)
    · exact .inl h
    · exact .inr (.inl h)
  | quietTurned quiet hquiet => exact ⟨hquiet, hx.reply, hx.suits, hx.handing⟩
  | joined quiet hjoining =>
    have hs := hx.suits
    rw [hjoining] at hs
    have hside : x.role.activeSide = true := congrArg Role.activeSide hs
    exact ⟨fun _ => ⟨hside, rfl⟩, nofun, .inl hside, fun _ => rfl⟩
  | accepted hrole hqueue hidle =>
    have hno : ¬x.leads := fun hl => by have := hl.1; rw [hrole] at this; nomatch this
    refine ⟨fun hq => absurd (hx.quiet hq) hno, fun hr => ?_, .inr hrole, fun _ => rfl⟩
    obtain h | h | h := hx.reply hr
    · rw [hidle] at h; nomatch h
    · rw [hidle] at h; nomatch h
    · exact absurd h hno
  | tookOver quiet hrole hup =>
    refine ⟨fun _ => ⟨rfl, congrArg LinkState.associated hup⟩, nofun, ?_, nofun⟩
    show x.link.suits .active
    rw [hup]
    exact .inl rfl
  | stoodDown hleads => exact ⟨nofun, nofun, .inr rfl, nofun⟩

/-! ## The apply queue (R91, R100) -/

/-- Consecutive sequences from a first one. -/
def run : Byte → Nat → List Byte
  | _, 0 => []
  | a, k + 1 => a :: run (a + 1) k

@[simp] theorem length_run (a : Byte) (k : Nat) : (run a k).length = k := by
  induction k generalizing a with
  | zero => rfl
  | succ k ih => exact congrArg (· + 1) (ih _)

theorem byte_add_succ (a : Byte) (k : Nat) : a + 1 + BitVec.ofNat 8 k = a + BitVec.ofNat 8 (k + 1) := by
  rw [BitVec.ofNat_add, BitVec.add_assoc, BitVec.add_comm 1]
  rfl

theorem byte_succ_add (a : Byte) (k : Nat) : a + BitVec.ofNat 8 k + 1 = a + BitVec.ofNat 8 (k + 1) := by
  rw [BitVec.ofNat_add, BitVec.add_assoc]
  rfl

theorem run_append (a : Byte) (j k : Nat) : run a (j + k) = run a j ++ run (a + BitVec.ofNat 8 j) k := by
  induction j generalizing a with
  | zero => simp [run]
  | succ j ih => rw [Nat.succ_add, run, ih, byte_add_succ]; rfl

theorem run_succ (a : Byte) (k : Nat) : run a (k + 1) = run a k ++ [a + BitVec.ofNat 8 k] := run_append a k 1

theorem mem_run {a q : Byte} {k : Nat} (h : q ∈ run a k) : ∃ i < k, q = a + BitVec.ofNat 8 i := by
  induction k generalizing a with
  | zero => nomatch h
  | succ k ih =>
    cases h with
    | head => exact ⟨0, by omega, by simp⟩
    | tail _ h =>
      obtain ⟨i, hi, rfl⟩ := ih h
      exact ⟨i + 1, by omega, byte_add_succ a i⟩

/-- The queue holds at most 16 records, R − P of them, consecutive from P, only in STANDBY and PROMOTING, and the hold state agrees. -/
structure Outline.QueueFits (x : Outline) : Prop where
  fits : x.queue.length ≤ 16
  ends : x.receiveNext = x.appliedNext + BitVec.ofNat 8 x.queue.length
  order : x.queue = run x.appliedNext x.queue.length
  role : x.queue = [] ∨ x.role = .standby ∨ x.role = .promoting
  hold : if x.holding = true then 4 < x.queue.length else x.queue.length < 12

/-- An empty queue, with R = P and READY. -/
theorem Outline.QueueFits.empty {x : Outline} (hqueue : x.queue = []) (hends : x.receiveNext = x.appliedNext)
    (hhold : x.holding = false) : x.QueueFits :=
  ⟨by simp [hqueue], by simp [hqueue, hends], by simp [hqueue, run], .inl hqueue, by simp [hqueue, hhold]⟩

theorem Outline.QueueFits.holding_false {x : Outline} (h : x.QueueFits) (hqueue : x.queue = []) : x.holding = false := by
  have hhold := h.hold
  rw [hqueue] at hhold
  cases hh : x.holding with
  | false => rfl
  | true => simp [hh] at hhold

theorem Move.queueFits {asked : Prop} {x y : Outline} (h : Move asked x y) (hlink : x.LinkFits) (hx : x.QueueFits) :
    y.QueueFits := by
  have offStandby (hside : x.role.activeSide = true) : x.queue = [] := by
    refine hx.role.resolve_right fun hr => ?_
    obtain hr | hr := hr <;> rw [hr] at hside <;> nomatch hside
  cases h with
  | appended | takenBack | acknowledged | sent | linkTurned | recovering | recovered | replyTurned | quietTurned =>
    exact ⟨hx.fits, hx.ends, hx.order, hx.role, hx.hold⟩
  | sideKept new hside hnew => exact ⟨hx.fits, hx.ends, hx.order, .inl (offStandby hside), hx.hold⟩
  | sideLeft hside hassociated hjoining => exact ⟨hx.fits, hx.ends, hx.order, .inl (offStandby hside), hx.hold⟩
  | assigned new hold hnew hqueue =>
    refine ⟨hx.fits, hx.ends, hx.order, ?_, hx.hold⟩
    have hempty (hr : x.role = .unassigned ∨ x.role = .fenced) : x.queue = [] := by
      refine hx.role.resolve_right fun h => ?_
      obtain hr | hr := hr <;> rw [hr] at h <;> obtain h | h := h <;> nomatch h
    obtain h | h | h | h := hqueue
    · exact .inr (.inl h)
    · exact .inr (.inr h)
    · exact .inl h
    · exact .inl (hempty h)
  | lost new reply sent hside hnew => exact ⟨hx.fits, hx.ends, hx.order, .inl (offStandby hside), hx.hold⟩
  | joined quiet hjoining =>
    have hs := hlink.suits
    rw [hjoining] at hs
    have hqueue := offStandby (congrArg Role.activeSide hs)
    exact .empty hqueue rfl (hx.holding_false hqueue)
  | accepted hrole hqueue hidle => exact .empty hqueue rfl rfl
  | tookOver quiet hrole hup => exact .empty rfl rfl rfl
  | stoodDown hleads => exact .empty (offStandby hleads.1) rfl rfl
  | queued hup hside hroom =>
    have hstandby : x.role = .standby := by
      have hs := hlink.suits
      rw [hup] at hs
      exact hs.resolve_left (by rw [hside]; nofun)
    refine ⟨by simpa using hroom, ?_, ?_, .inr (.inl hstandby), ?_⟩
    · show x.receiveNext + 1 = x.appliedNext + BitVec.ofNat 8 (x.queue ++ [x.receiveNext]).length
      rw [hx.ends, List.length_append, List.length_singleton, byte_succ_add]
    · show x.queue ++ [x.receiveNext] = run x.appliedNext (x.queue ++ [x.receiveNext]).length
      rw [List.length_append, List.length_singleton, run_succ, ← hx.order, ← hx.ends]
    · have hhold := hx.hold
      cases hh : x.holding with
      | true =>
        simp [hh] at hhold ⊢
        omega
      | false =>
        simp [hh] at hhold ⊢
        split <;> omega
  | applied hqueue =>
    obtain ⟨q, rest, hq⟩ := List.exists_cons_of_ne_nil hqueue
    have horder := hx.order
    rw [hq] at horder
    obtain ⟨-, hrest⟩ := List.cons.inj horder
    have hfits := hx.fits
    have hends := hx.ends
    have hhold := hx.hold
    rw [hq, List.length_cons] at hfits hends hhold
    refine ⟨?_, ?_, ?_, ?_, ?_⟩ <;> simp only [hq, List.tail_cons]
    · omega
    · rw [hends, byte_add_succ]
    · exact hrest
    · exact .inr (hx.role.resolve_left hqueue)
    · cases hh : x.holding with
      | true =>
        simp [hh] at hhold ⊢
        split <;> omega
      | false =>
        simp [hh] at hhold ⊢
        omega
  | dropped next hnext =>
    refine .empty rfl ?_ rfl
    obtain rfl | ⟨hone, rfl⟩ := hnext
    · rfl
    · show x.receiveNext = x.appliedNext + 1
      rw [hx.ends, hone]
      rfl

/-! ## The SENT entries (R25, R68) -/

/-- The sequences of SENT entries from `a` on, then places without one. -/
def sentFirst (a : Byte) (k m : Nat) : List (Option Byte) := (run a k).map some ++ List.replicate m none

/-- SENT entries first, consecutive from A; S = A + k where the part leads an association; at most 32, as the window allows. -/
def Outline.SentFits (x : Outline) : Prop :=
  x.window ≤ 32 ∧ ∃ k m, x.seqs = sentFirst x.ackPoint k m ∧ (x.leads → x.sendPoint = x.ackPoint + BitVec.ofNat 8 k) ∧ k ≤ 32

theorem countP_sentFirst (a : Byte) (k m : Nat) : (sentFirst a k m).countP Option.isSome = k := by
  rw [sentFirst, List.countP_append, List.countP_map, List.countP_replicate, if_neg nofun, Nat.add_zero]
  exact (List.countP_eq_length.2 fun _ _ => rfl).trans (length_run a k)

theorem sentFirst_succ (a : Byte) (k m : Nat) : sentFirst a k (m + 1) = sentFirst a k m ++ [none] := by
  simp [sentFirst, List.replicate_succ']

theorem fillFirst_map_some (q : Byte) (l : List Byte) (rest : List (Option Byte)) :
    fillFirst q (l.map some ++ none :: rest) = l.map some ++ some q :: rest := by
  induction l with
  | nil => rfl
  | cons a l ih => exact congrArg (some a :: ·) ih

/-- The next entry sent with the sequence after the last. -/
theorem fillFirst_sentFirst (a : Byte) (k m : Nat) :
    fillFirst (a + BitVec.ofNat 8 k) (sentFirst a k (m + 1)) = sentFirst a (k + 1) m := by
  rw [sentFirst, List.replicate_succ, fillFirst_map_some, sentFirst, run_succ]
  simp

theorem none_mem_sentFirst {a : Byte} {k m : Nat} (h : none ∈ sentFirst a k m) : m ≠ 0 := by
  rintro rfl
  simp [sentFirst] at h

theorem byte_add_sub (a : Byte) (i : Nat) : a + BitVec.ofNat 8 i - a = BitVec.ofNat 8 i := by
  rw [BitVec.add_comm, BitVec.add_sub_cancel]

/-- An acknowledgement takes the first SENT entries and leaves the rest. -/
theorem filter_sentFirst (a : Byte) {j k : Nat} (hj : j ≤ k) (hk : k ≤ 32) (m : Nat) :
    ((sentFirst a k m).filter fun q => !acknowledged a (a + BitVec.ofNat 8 j) q) =
      sentFirst (a + BitVec.ofNat 8 j) (k - j) m := by
  have hbefore (i : Nat) (hi : i < 256) : seqBefore a (a + BitVec.ofNat 8 j) (a + BitVec.ofNat 8 i) = decide (i < j) := by
    rw [seqBefore, byte_add_sub, byte_add_sub, BitVec.toNat_ofNat, BitVec.toNat_ofNat, Nat.mod_eq_of_lt hi,
      Nat.mod_eq_of_lt (by omega)]
  obtain ⟨l, rfl⟩ := Nat.exists_eq_add_of_le hj
  have hgone : ((run a j).map some).filter (fun q => !acknowledged a (a + BitVec.ofNat 8 j) q) = [] := by
    refine List.filter_eq_nil_iff.2 fun q hq => ?_
    obtain ⟨x, hx, rfl⟩ := List.mem_map.1 hq
    obtain ⟨i, hi, rfl⟩ := mem_run hx
    simp [acknowledged, hbefore i (by omega), hi]
  have hkept : ((run (a + BitVec.ofNat 8 j) l).map some).filter (fun q => !acknowledged a (a + BitVec.ofNat 8 j) q) =
      (run (a + BitVec.ofNat 8 j) l).map some := by
    refine List.filter_eq_self.2 fun q hq => ?_
    obtain ⟨x, hx, rfl⟩ := List.mem_map.1 hq
    obtain ⟨i, hi, rfl⟩ := mem_run hx
    have := hbefore (j + i) (by omega)
    rw [BitVec.ofNat_add, ← BitVec.add_assoc] at this
    simp [acknowledged, this]
  have hrest : (List.replicate m (none : Option Byte)).filter (fun q => !acknowledged a (a + BitVec.ofNat 8 j) q) =
      List.replicate m none :=
    List.filter_eq_self.2 fun q hq => by rw [List.eq_of_mem_replicate hq]; rfl
  rw [sentFirst, run_append, List.map_append, List.append_assoc, List.filter_append, List.filter_append, hgone, hkept, hrest,
    List.nil_append, Nat.add_sub_cancel_left]
  rfl

/-- A journal that is empty has nothing to keep in order. -/
theorem Outline.SentFits.empty {x : Outline} (hwindow : x.window ≤ 32) (hseqs : x.seqs = [])
    (hpoints : x.leads → x.sendPoint = x.ackPoint) : x.SentFits :=
  ⟨hwindow, 0, 0, hseqs, by simpa using hpoints, by omega⟩

theorem Move.sentFits {asked : Prop} {x y : Outline} (h : Move asked x y) (hhome : x.Home) (hlink : x.LinkFits)
    (hx : x.SentFits) : y.SentFits := by
  obtain ⟨hwindow, k, m, hseqs, hsend, hk⟩ := id hx
  cases h with
  | appended hleads hfree =>
    exact ⟨hwindow, k, m + 1, (congrArg (· ++ [none]) hseqs).trans (sentFirst_succ _ _ _).symm, hsend, hk⟩
  | takenBack kept hlast =>
    have hm := none_mem_sentFirst (hseqs ▸ hlast ▸ List.mem_append_right kept (List.mem_singleton.2 rfl))
    obtain ⟨m, rfl⟩ := Nat.exists_eq_succ_of_ne_zero hm
    rw [hlast, sentFirst_succ] at hseqs
    exact ⟨hwindow, k, m, List.append_cancel_right hseqs, hsend, hk⟩
  | acknowledged aseq hleads haseq =>
    rw [seqInRange_iff, hsend hleads, byte_add_sub, BitVec.toNat_ofNat, Nat.mod_eq_of_lt (by omega)] at haseq
    have haseq' : aseq = x.ackPoint + BitVec.ofNat 8 (aseq - x.ackPoint).toNat := by
      rw [BitVec.ofNat_toNat, BitVec.setWidth_eq, BitVec.add_comm, BitVec.sub_add_cancel]
    generalize (aseq - x.ackPoint).toNat = j at haseq haseq'
    subst haseq'
    refine ⟨hwindow, k - j, m, ?_, fun _ => ?_, by omega⟩
    · show x.seqs.filter _ = _
      rw [hseqs, filter_sentFirst _ haseq hk]
    · show x.sendPoint = _
      rw [hsend hleads, BitVec.add_assoc, ← BitVec.ofNat_add, Nat.add_sub_cancel' haseq]
  | sent hleads hsome hroom =>
    rw [hseqs] at hsome
    obtain ⟨m, rfl⟩ := Nat.exists_eq_succ_of_ne_zero (none_mem_sentFirst hsome)
    rw [hseqs, countP_sentFirst] at hroom
    refine ⟨hwindow, k + 1, m, ?_, fun _ => ?_, by omega⟩
    · show fillFirst x.sendPoint x.seqs = _
      rw [hsend hleads, hseqs, fillFirst_sentFirst]
    · show x.sendPoint + 1 = _
      rw [hsend hleads, byte_succ_add]
  | sideKept new hside hnew => exact ⟨hwindow, k, m, hseqs, fun hl => hsend ⟨hside, hl.2⟩, hk⟩
  | sideLeft hside hassociated hjoining => exact .empty hwindow rfl fun hl => nomatch hl.1
  | assigned new hold hnew hqueue =>
    have hside : x.role.activeSide = false := by obtain hr | hr | hr | ⟨hr, -⟩ := hold <;> rw [hr] <;> rfl
    have hplain := hlink.plain hside fun hup hr => by
      obtain h | h | h | ⟨-, h⟩ := hold
      · rw [h] at hr; nomatch hr
      · rw [h] at hr; nomatch hr
      · rw [h] at hr; nomatch hr
      · exact h hup
    refine ⟨hwindow, k, m, hseqs, fun hl => ?_, hk⟩
    have := hl.2
    obtain h | h | h := hplain <;> rw [show (_ : Outline).link = x.link from rfl, h] at this <;> nomatch this
  | linkTurned new reply hold hnew hjoining hreply =>
    exact ⟨hwindow, k, m, hseqs, fun hl => absurd (hnew.symm.trans hl.2) nofun, hk⟩
  | lost new reply sent hside hnew =>
    refine .empty hwindow rfl fun hl => ?_
    have := hl.2
    obtain ⟨rfl, -⟩ | rfl := hnew <;> nomatch this
  | recovering hup htimer => exact ⟨hwindow, k, m, hseqs, fun hl => hsend ⟨hl.1, congrArg LinkState.associated hup⟩, hk⟩
  | recovered reply hleads => exact ⟨hwindow, k, m, hseqs, fun _ => hsend hleads, hk⟩
  | replyTurned reply hreply => exact hx
  | quietTurned quiet hquiet => exact hx
  | joined quiet hjoining =>
    exact .empty hwindow (hhome.nil_of fun hl => by have := hl.2; rw [hjoining] at this; nomatch this) fun _ => rfl
  | accepted hrole hqueue hidle =>
    exact .empty hwindow (hhome.nil_of fun hl => by have := hl.1; rw [hrole] at this; nomatch this) fun _ => rfl
  | tookOver quiet hrole hup =>
    exact .empty hwindow (hhome.nil_of fun hl => by have := hl.1; rw [hrole] at this; nomatch this) fun _ => rfl
  | stoodDown hleads => exact .empty hwindow rfl fun _ => rfl
  | queued hup hside hroom => exact hx
  | applied hqueue => exact hx
  | dropped next hnext => exact hx

end Sys2Proof.Machine

/-! # The moves of every event

Each event is a few moves of the outline, under the checks the event makes itself. -/

namespace Sys2Proof.Machine

open Sys2Proof

theorem Moves.same {asked : Prop} {x y : Outline} (h : y = x) : Moves asked x y := by
  rw [h]

/-- The part of the link that does not lead an association. -/
theorem not_leads_of_link {s : State} (h : s.link.state.associated = false) : ¬(outline s).leads := fun hl =>
  Bool.false_ne_true (h.symm.trans hl.2)

theorem not_leads_of_role {s : State} (h : s.role.activeSide = false) : ¬(outline s).leads := fun hl =>
  Bool.false_ne_true (h.symm.trans hl.1)

theorem isSome_of_isNone_false {α : Type} {o : Option α} (h : ¬o.isNone = true) : o.isSome = true := by
  cases o with
  | none => exact absurd rfl h
  | some a => rfl

/-! ## The ends of associations -/

/-- The link of a part that leads no association turns to OFFLINE, IDLE or LEAVING, the reply timer as it was or with LEAVING. -/
theorem turned_moves {asked : Prop} {s : State} (hold : ¬(outline s).leads) {new : LinkState} {reply : Bool}
    (hnew : new = .offline ∨ new = .idle ∨ new = .leaving)
    (hreply : reply = true → new = .leaving ∨ (s.link.replyTimer.isSome = true ∧ s.link.state ≠ .joining ∧ s.link.state ≠ .leaving)) :
    Moves asked (outline s) { outline s with link := new, reply := reply } := by
  refine .single (.linkTurned new reply hold ?_ ?_ fun h => .inr (hreply h))
  · obtain rfl | rfl | rfl := hnew <;> rfl
  · rintro rfl
    obtain h | h | h := hnew <;> nomatch h

theorem loseLink_moves {asked : Prop} (reason : LossReason) (peer : Option PartReason) {s : State} (hassoc : s.link.state.associated = true) :
    Moves asked (outline s) (outline (loseLink reason peer s)) := by
  unfold loseLink endAssociation
  rw [outline_enterLinkState]
  split
  next hside =>
    rw [outline_activeLoss]
    exact .single (.lost .idle false (takeoverSent s) hside (.inl ⟨rfl, rfl⟩))
  next hside =>
    rw [outline_standbyLoss]
    refine turned_moves (not_leads_of_role (by simpa using hside)) (.inr (.inl rfl)) fun h => .inr ⟨h, ?_, ?_⟩
    · rintro he
      rw [he] at hassoc
      nomatch hassoc
    · rintro he
      rw [he] at hassoc
      nomatch hassoc

theorem leaveAssociation_moves {asked : Prop} (reason : PartReason) (s : State) :
    Moves asked (outline s) (outline (leaveAssociation reason s)) := by
  unfold leaveAssociation endAssociation
  rw [outline_leaveLink]
  split
  next hside =>
    rw [outline_activeLoss]
    exact .single (.lost .leaving true (takeoverSent s) hside (.inr rfl))
  next hside =>
    rw [outline_standbyLoss]
    exact turned_moves (not_leads_of_role (by simpa using hside)) (.inr (.inr rfl)) fun _ => .inl rfl

theorem outline_leaveAssociation_role {s : State} (hrole : s.role ≠ .handingOver) (reason : PartReason) :
    (outline (leaveAssociation reason s)).role = s.role := by
  unfold leaveAssociation endAssociation
  rw [outline_leaveLink]
  split
  · rw [outline_activeLoss]
    exact if_neg hrole
  · rfl

theorem outline_leaveAssociation_link (reason : PartReason) (s : State) :
    (outline (leaveAssociation reason s)).link = .leaving := by
  unfold leaveAssociation
  rw [outline_leaveLink]

theorem leaveLink_moves {asked : Prop} (reason : PartReason) {s : State} (hold : ¬(outline s).leads) :
    Moves asked (outline s) (outline (leaveLink reason s)) := by
  rw [outline_leaveLink]
  exact turned_moves hold (.inr (.inr rfl)) fun _ => .inl rfl

theorem endLeaving_moves {asked : Prop} {s : State} (hold : ¬(outline s).leads) :
    Moves asked (outline s) (outline (endLeaving s)) := by
  rw [outline_endLeaving]
  refine turned_moves hold ?_ nofun
  cases s.link.enable
  · exact .inl rfl
  · exact .inr (.inl rfl)

/-! ## Frames heard -/

theorem heard_moves {asked : Prop} (s : State) : Moves asked (outline s) (outline (heard s)) := by
  rw [outline_heard]
  split
  next h => exact .single (.quietTurned _ fun _ => ⟨h.2, h.1⟩)
  next => exact .refl

theorem heardOther_moves {asked : Prop} (s : State) : Moves asked (outline s) (outline (heardOther s)) := by
  rw [outline_heardOther]
  exact heard_moves s

theorem heardOther_role (s : State) : (heardOther s).role = s.role := (congrArg State.role (heardOther_frame s) :)

theorem heardOther_journal (s : State) : (heardOther s).journal = s.journal := (congrArg State.journal (heardOther_frame s) :)

/-- What a heard frame leaves of the link. -/
theorem heardOther_link (s : State) :
    (heardOther s).link =
      { s.link with
        acceptRepeat := if s.link.state.associated then false else s.link.acceptRepeat
        quietTimer := if s.link.state.associated ∧ s.role.activeSide then quietStarted s.linkParams else s.link.quietTimer } := by
  unfold heardOther heard
  by_cases ha : s.link.state.associated = true
  · by_cases hr : s.role.activeSide = true
    · simp [ha, hr]
    · simp only [ha, hr, if_true, if_false, and_false, Bool.false_eq_true]
      split <;> rfl
  · simp [ha]

/-! ## The standby's engine -/

theorem acceptJoin_moves {asked : Prop} (session : Byte) {s : State} (hrole : s.role = .standby) (hqueue : (outline s).queue = [])
    (hidle : s.link.state = .idle) : Moves asked (outline s) (outline (acceptJoin session s)) := by
  rw [outline_acceptJoin]
  exact .single (.accepted hrole hqueue hidle)

theorem answerJoin_moves {asked : Prop} (session : Byte) {s : State} (hidle : s.link.state = .idle) :
    Moves asked (outline s) (outline (answerJoin session s)) := by
  unfold answerJoin
  split
  next hrole =>
    split
    next hqueue => exact acceptJoin_moves session hrole (by simp [outline, List.isEmpty_iff.1 hqueue]) hidle
    next => exact .refl
  · exact .same (outline_denyConflict _ _)
  · exact .same (outline_denyConflict _ _)
  · exact .same (outline_sendFrame _ _)
  · exact .same (outline_sendFrame _ _)
  · exact .same (outline_sendFrame _ _)

theorem queueEmptied_moves {asked : Prop} {s : State} (hqueue : (outline s).queue = []) :
    Moves asked (outline s) (outline (queueEmptied s)) := by
  unfold queueEmptied
  split
  next hrole =>
    split
    next session _ =>
      split
      next hidle => exact acceptJoin_moves session hrole hqueue hidle
      next => exact .refl
    next => exact .refl
  next hrole =>
    rw [outline_completePromotion]
    exact .single (.assigned .active (.inr (.inr (.inl hrole))) nofun (.inr (.inr (.inl hqueue))))
  all_goals exact .refl

theorem completeRecord_moves {asked : Prop} {s : State} (hqueue : s.standby.queue ≠ []) :
    Moves asked (outline s) (outline (completeRecord s)) := by
  unfold completeRecord
  extract_lets rest leavesHold _ done told
  have hdone : Moves asked (outline s) (outline done) := by
    have hmove : Move asked (outline s) _ := .applied (by simpa [outline] using hqueue)
    have hholding : (outline done).holding = ((outline s).holding && !((outline s).queue.tail.length == 4)) := by
      have hbool (a b : Bool) : (a && !(a && b)) = (a && !b) := by cases a <;> rfl
      show (s.standby.holding && !(s.standby.holding && s.standby.queue.tail.length == 4)) = _
      rw [hbool]
      simp [outline]
    have heq : outline done =
        { outline s with
          queue := (outline s).queue.tail, appliedNext := (outline s).appliedNext + 1
          holding := (outline s).holding && !((outline s).queue.tail.length == 4) } := by
      rw [← hholding, show (outline s).queue.tail = s.standby.queue.tail.map Received.tseq from List.map_tail.symm]
      rfl
    rw [heq]
    exact .single hmove
  have htold : outline told = outline done := by
    unfold told
    split
    · exact outline_reportCompletion _ _
    · rfl
  have hqueueTold : (outline told).queue = rest.map Received.tseq := congrArg Outline.queue htold
  rw [← htold] at hdone
  split
  next hempty => exact hdone.trans (queueEmptied_moves (by rw [hqueueTold, List.isEmpty_iff.1 hempty]; rfl))
  next => exact hdone

theorem takeOver_moves {asked : Prop} {s : State} (hrole : s.role = .standby) (hqueue : s.standby.queue ≠ []) :
    Moves asked (outline s) (outline (takeOver s)) := by
  unfold takeOver
  extract_lets passed _ emptied _ acked swapped
  split
  next hup =>
    have hacked : outline acked = outline emptied := outline_sendFrame _ _
    have hswapped : outline swapped = _ := outline_zeroSequence (changeRole .active acked)
    rw [outline_changeRole, hacked, Outline.assign, if_neg (by simp [Role.activeSide])] at hswapped
    rw [outline_setCause]
    clear_value swapped
    have heq : _ = _ := congrArg (fun x : Outline => { x with reply := false, quiet := (quietStarted s.linkParams).stands }) hswapped
    refine Eq.subst (motive := Moves asked (outline s)) heq.symm ?_
    exact .single (.tookOver _ hrole hup)
  next hup =>
    rw [outline_setCause, outline_changeRole, Outline.assign, if_neg (by simp [Role.activeSide])]
    refine .trans (.single (.dropped (outline emptied).appliedNext ?_)) (.single (.assigned .active (.inr (.inr (.inr ⟨hrole, hup⟩))) nofun
      (.inr (.inr (.inl rfl)))))
    obtain ⟨r, rest, hcons⟩ := List.exists_cons_of_ne_nil hqueue
    by_cases hempty : s.standby.queue.tail.isEmpty = true
    · have hlength : (outline s).queue.length = 1 := by
        rw [hcons, List.tail_cons, List.isEmpty_iff] at hempty
        simp [outline, hcons, hempty]
      exact .inr ⟨hlength, if_pos hempty⟩
    · exact .inl (if_neg hempty)

theorem takeRecord_moves {asked : Prop} (s : State) : Moves asked (outline s) (outline (takeRecord s)) := by
  unfold takeRecord
  split
  next => exact .refl
  next r rest hcons =>
    have hqueue : s.standby.queue ≠ [] := by rw [hcons]; nofun
    have happlied (line : LineNo) (x : Record) :
        Moves asked (outline s) (outline
          (if (owner s.windows (lineByteAddr line)).isSome then
            match nextWord x 0 with
            | some o => { s with standby.engine := .applying o }
            | none => completeRecord s
          else completeRecord (setCause .mapMismatch s))) := by
      split
      · split
        · exact .refl
        · exact completeRecord_moves hqueue
      · exact completeRecord_moves (s := setCause .mapMismatch s) hqueue
    split
    next line bytes hr => exact happlied line r.record
    next line data hr => exact happlied line r.record
    next => exact completeRecord_moves hqueue
    next =>
      split
      next hrole => exact takeOver_moves hrole hqueue
      next => exact completeRecord_moves hqueue

end Sys2Proof.Machine

namespace Sys2Proof.Machine

open Sys2Proof

/-! ## The bus -/

/-- The outline knows nothing of windows, bus, maps, engine, statistics and causes. -/
theorem outline_elsewhere {s t : State}
    (h : t = { s with
      windows := t.windows, upstream := t.upstream, ending := t.ending, stallTimer := t.stallTimer, maps := t.maps
      resync := t.resync, handoverTimer := t.handoverTimer, keptSwap := t.keptSwap, slots := t.slots, port := t.port
      upstreamRun := t.upstreamRun, mem := t.mem, causes := t.causes, windowStats := t.windowStats, linkStats := t.linkStats
      freeCount := t.freeCount }) : outline t = outline s := by
  rw [h]
  rfl

theorem appendEntry_moves {asked : Prop} {e : Entry} (he : e.state.sequence = none) {s : State} (hhome : asked → (outline s).leads)
    (hfree : 0 < freeEntries s) : Moves asked (outline s) (outline (appendEntry e s)) := by
  rw [outline_appendEntry, he]
  refine .single (.appended hhome ?_)
  rw [freeEntries] at hfree
  simpa [outline, sequences] using Nat.lt_of_sub_pos hfree

theorem classify_capture {s : State} {a : Access} {forced : Bool} {w : WindowId} (h : classify s a forced = .capture w) :
    s.role = .active ∧ s.link.state.associated = true ∧ 0 < freeEntries s := by
  unfold classify at h
  split at h
  · nomatch h
  split at h
  · nomatch h
  next hrole =>
    split at h
    · nomatch h
    unfold classifyActive at h
    split at h
    next hassoc =>
      split at h
      · nomatch h
      split at h
      next hfree => exact ⟨hrole, hassoc, hfree⟩
      next => split at h <;> nomatch h
    next => split at h <;> nomatch h
  all_goals nomatch h

theorem grantUpstream_moves {asked : Prop} (a : Access) (forced : Bool) (s : State) :
    Moves asked (outline s) (outline (grantUpstream a forced s)) := by
  unfold grantUpstream
  split
  · exact .refl
  split
  · exact .refl
  next w hw =>
    obtain ⟨hrole, hassoc, hfree⟩ := classify_capture hw
    exact appendEntry_moves (e := { body := .write w (lineOfWord a.addr) (accessBytes a), state := .pending }) rfl
      (fun _ => ⟨congrArg Role.activeSide hrole, hassoc⟩) hfree
  next w hw =>
    refine .same ?_
    exact congrArg (fun q => { outline s with seqs := q }) (sequences_mergeYoungest (accessBytes a) s.journal)
  · exact .refl
  · exact .refl
  · exact .refl

/-- What a request for a first read says of the part. -/
theorem leads_of_firstRead {s : State} {p : Walk} (hr : internalRequest s = some (.firstRead p)) (hfits : requestFits s = true) :
    (outline s).leads := by
  have hwaiting : s.resync = .waiting p true := by
    unfold internalRequest at hr
    split at hr
    · split at hr
      · nomatch hr
      next q requesting hw =>
        split at hr
        next hreq =>
          cases hr
          rw [hw, hreq]
        next => nomatch hr
      · split at hr
        · nomatch hr
        · cases hf : fillingLine s <;> rw [hf] at hr <;> nomatch hr
    · split at hr
      · split at hr <;> nomatch hr
      · nomatch hr
    · split at hr
      · split at hr <;> nomatch hr
      · nomatch hr
    all_goals nomatch hr
  rw [requestFits, hwaiting] at hfits
  simp only [resyncMayRun, Bool.and_eq_true, beq_iff_eq] at hfits
  exact ⟨congrArg Role.activeSide hfits.1, congrArg LinkState.associated hfits.2⟩

theorem grantInternal_moves {r : InternalRequest} {s : State} (hr : internalRequest s = some r) :
    Moves (requestFits s = true) (outline s) (outline (grantInternal r s)) := by
  unfold grantInternal
  split
  next p =>
    split
    next hreserve => exact appendEntry_moves (e := { body := .fill p.window (walkLine s p) [], state := .filling }) rfl (leads_of_firstRead hr) (Nat.zero_lt_of_lt hreserve)
    next => exact .refl
  · exact .refl
  · split <;> exact .refl

theorem grant_moves (s : State) : Moves (requestFits s = true) (outline s) (outline (grant s)) := by
  have hrun (t : State) : outline { t with upstreamRun := 0 } = outline t := rfl
  unfold grant
  split
  · exact .refl
  split
  · exact .refl
  · exact grantUpstream_moves _ _ _
  next hr =>
    rw [hrun]
    exact grantInternal_moves hr
  next hr =>
    split
    · exact grantUpstream_moves _ _ { s with upstreamRun := s.upstreamRun + 1 }
    · rw [hrun]
      exact grantInternal_moves hr

theorem outline_takeWord (word : WordData) (last : Bool) (s : State) : outline (takeWord word last s) = outline s :=
  congrArg (fun q => { outline s with seqs := q }) (sequences_takeWord word last s)

theorem outline_completeRead (word : WordData) (s : State) : outline (completeRead word s) = outline s := by
  unfold completeRead
  split
  · split
    · exact outline_takeWord word false s
    · extract_lets copied
      have hcopied : outline copied = outline s := by
        unfold copied
        split <;> rfl
      exact (outline_takeWord word true copied).trans hcopied
  · rfl
  · rfl

theorem completeApplyWord_moves {asked : Prop} (s : State) : Moves asked (outline s) (outline (completeApplyWord s)) := by
  unfold completeApplyWord
  split
  next hcons =>
    split
    · exact .refl
    · exact completeRecord_moves (by rw [hcons]; nofun)
  · exact .refl

theorem completeAccess_moves {asked : Prop} (s : State) : Moves asked (outline s) (outline (completeAccess s)) := by
  unfold completeAccess
  split
  · exact .refl
  next p _ =>
    extract_lets freed
    have hfreed : outline freed = outline s := rfl
    rw [← hfreed]
    split
    · unfold completeUpstream
      split <;> exact .refl
    · exact .same (outline_completeRead _ freed)
    · exact completeApplyWord_moves freed
    · exact .refl

/-! ## Engines and timers -/

theorem takeNext_moves {asked : Prop} (s : State) : Moves asked (outline s) (outline (takeNext s)) := by
  unfold takeNext
  split
  · exact takeRecord_moves s
  · exact .refl

theorem expireStall_moves {asked : Prop} (s : State) : Moves asked (outline s) (outline (expireStall s)) := by
  unfold expireStall
  split <;> exact .refl

theorem not_leads_of_joinConditions {s : State} (h : joinConditions s = true) : s.role = .active ∧ ¬(outline s).leads := by
  simp only [joinConditions, Bool.and_eq_true, beq_iff_eq] at h
  obtain ⟨⟨⟨hrole, -⟩, hidle⟩, -⟩ := h
  exact ⟨hrole, not_leads_of_link (by rw [hidle]; rfl)⟩

theorem expireRejoin_moves {asked : Prop} (s : State) : Moves asked (outline s) (outline (expireRejoin s)) := by
  unfold expireRejoin
  split
  next h =>
    rw [Bool.and_eq_true] at h
    obtain ⟨hrole, hno⟩ := not_leads_of_joinConditions h.2
    extract_lets _ asking
    have hasking : outline asking = outline s := rfl
    rw [outline_startReply, outline_enterLinkState, outline_sendFrame, hasking]
    exact .single (.linkTurned .joining true hno rfl (fun _ => hrole) fun _ => .inl rfl)
  · exact .refl

theorem expireReply_moves {asked : Prop} (s : State) : Moves asked (outline s) (outline (expireReply s)) := by
  unfold expireReply
  split
  · exact .refl
  next hrunning =>
    have hreply : s.link.replyTimer.isSome = true := isSome_of_isNone_false hrunning
    have hkept : { outline s with reply := true } = outline s := congrArg (fun b => { outline s with reply := b }) hreply.symm
    split
    next hup =>
      rw [enterRecovery_outline]
      exact .single (.recovering hup (.inl hreply))
    next hrecovery =>
      split
      · rw [outline_startReply, outline_sendAsk]
        exact .same hkept
      · exact loseLink_moves _ _ (by rw [hrecovery]; rfl)
    next hjoining =>
      split
      · rw [outline_startReply, outline_sendFrame]
        exact .same hkept
      · rw [outline_enterLinkState, outline_stopReply]
        exact turned_moves (not_leads_of_link (by rw [hjoining]; rfl)) (.inr (.inl rfl)) nofun
    next hleaving => exact endLeaving_moves (not_leads_of_link (by rw [hleaving]; rfl))
    next => exact .single (.replyTurned false nofun)
    next => exact .single (.replyTurned false nofun)

theorem expireQuiet_moves {asked : Prop} (s : State) : Moves asked (outline s) (outline (expireQuiet s)) := by
  unfold expireQuiet
  split
  next ms hrunning =>
    extract_lets _ expired
    have hstands : s.link.quietTimer.stands = true := by rw [hrunning]; rfl
    have hexpired : outline expired = outline s := congrArg (fun b => { outline s with quiet := b }) hstands.symm
    rw [← hexpired]
    split
    next hup =>
      rw [enterRecovery_outline]
      exact .single (.recovering hup.1 (.inr rfl))
    next => exact .refl
  · exact .refl
  · exact .refl

theorem standbyUp_iff (s : State) : standbyUp s = true ↔ s.link.state = .up ∧ s.role.activeSide = false := by
  simp [standbyUp]

theorem expireSilence_moves {asked : Prop} (s : State) : Moves asked (outline s) (outline (expireSilence s)) := by
  unfold expireSilence
  split
  next h =>
    rw [Bool.and_eq_true, standbyUp_iff] at h
    obtain ⟨-, hup, hside⟩ := h
    rw [outline_enterLinkState, outline_standbyLoss]
    exact turned_moves (not_leads_of_role hside) (.inr (.inl rfl)) fun h => .inr ⟨h, by rw [hup]; nofun, by rw [hup]; nofun⟩
  · exact .refl

theorem takeoverPending_iff (s : State) :
    takeoverPending s = true ↔ ∃ older, s.journal = older ++ [{ body := .takeover, state := .pending }] := by
  rw [← List.getLast?_eq_some_iff, takeoverPending]
  split
  next h => simp [h]
  next h => simpa using h

theorem expireHandover_moves {asked : Prop} (s : State) : Moves asked (outline s) (outline (expireHandover s)) := by
  unfold expireHandover
  split
  next h =>
    simp only [Bool.and_eq_true, beq_iff_eq] at h
    obtain ⟨-, hrole⟩ := h
    have hside : s.role.activeSide = true := congrArg Role.activeSide hrole
    extract_lets stopped
    split
    next hpending =>
      obtain ⟨older, hjournal⟩ := (takeoverPending_iff s).1 hpending
      have hwithdrawn : outline { stopped with journal := s.journal.dropLast } = { outline s with seqs := sequences older } := by
        rw [hjournal, List.dropLast_concat]
        rfl
      rw [outline_setCause, outline_changeRole, hwithdrawn, Outline.assign, if_neg (by simp [Role.activeSide])]
      refine .trans (.single (.takenBack (sequences older) ?_)) (.single (.sideKept .active hside (.inl rfl)))
      simp [outline, hjournal, sequences, EntryState.sequence]
    next => exact .refl
  · exact .refl

/-- Where a REC is decided the part leads an association. -/
theorem leads_of_mayDecideRec {s : State} (h : mayDecideRec s = true) : s.link.state = .up ∧ s.role.activeSide = true := by
  simp only [mayDecideRec, Bool.and_eq_true, beq_iff_eq] at h
  obtain ⟨⟨⟨⟨hup, hside⟩, -⟩, -⟩, -⟩ := h
  exact ⟨hup, hside⟩

theorem transmitFirst_moves {asked : Prop} {s : State} (hleads : (outline s).leads) :
    Moves asked (outline s) (outline (transmitFirst s)) := by
  unfold transmitFirst
  split
  next b hfirst =>
    split
    next hroom =>
      extract_lets q timed
      rw [sentEntries_eq] at hroom
      have htimed : Moves asked (outline s) (outline timed) := by
        unfold timed
        split
        · exact .single (.replyTurned true fun _ => .inl hleads)
        · exact .refl
      have hkept : timed.journal = s.journal ∧ timed.role = s.role ∧ timed.link.state = s.link.state ∧ timed.link.sendPoint = s.link.sendPoint ∧ timed.linkParams = s.linkParams := by
        unfold timed
        split <;> exact ⟨rfl, rfl, rfl, rfl, rfl⟩
      clear_value timed
      obtain ⟨hjournal, hrole, hlink, hsend, hparams⟩ := hkept
      refine htimed.tail ?_
      have hmove : Move asked (outline timed)
          { outline timed with seqs := fillFirst q (outline timed).seqs, sendPoint := q + 1 } := by
        rw [show q = (outline timed).sendPoint from hsend.symm]
        refine .sent ⟨?_, ?_⟩ ?_ ?_
        · exact (congrArg Role.activeSide hrole).trans hleads.1
        · exact (congrArg LinkState.associated hlink).trans hleads.2
        · show none ∈ sequences timed.journal
          rw [hjournal]
          exact none_mem_sequences hfirst
        · show (sequences timed.journal).countP Option.isSome < timed.linkParams.window.toNat
          rw [hjournal, hparams]
          exact hroom
      rw [show (outline timed).seqs = sequences s.journal from congrArg sequences hjournal, ← sequences_setFirstUnsent q 1] at hmove
      exact hmove
    next => exact .refl
  · exact .refl

theorem decideRec_moves {asked : Prop} (s : State) : Moves asked (outline s) (outline (decideRec s)) := by
  unfold decideRec
  split
  next hmay =>
    obtain ⟨hup, hside⟩ := leads_of_mayDecideRec hmay
    split
    · exact transmitFirst_moves ⟨hside, congrArg LinkState.associated hup⟩
    · unfold retransmit
      split
      · exact .same (congrArg (fun q => { outline s with seqs := q }) (sequences_raiseSendCount s.link.cursor s.journal))
      · exact .refl
  · exact .refl

end Sys2Proof.Machine

namespace Sys2Proof.Machine

open Sys2Proof

/-! ## Association frames -/

theorem receiveJoin_moves {asked : Prop} (session : Byte) (s : State) : Moves asked (outline s) (outline (receiveJoin session s)) := by
  have hassociated (hassoc : s.link.state.associated = true) :
      Moves asked (outline s) (outline
        (if s.role.activeSide then denyConflict session (heard s)
        else if s.link.acceptRepeat && session == s.link.session then sendFrame (.accept session) (heard s)
        else answerJoin session (enterLinkState .idle (standbyLoss .peerRejoin none s)))) := by
    split
    · rw [outline_denyConflict]
      exact heard_moves s
    next hside =>
      split
      · rw [outline_sendFrame]
        exact heard_moves s
      · have hidle := outline_enterLinkState .idle (standbyLoss .peerRejoin none s)
        rw [outline_standbyLoss] at hidle
        refine .trans ?_ (answerJoin_moves session (enterLinkState_state .idle _))
        rw [hidle]
        refine turned_moves (not_leads_of_role (by simpa using hside)) (.inr (.inl rfl)) fun h => .inr ⟨h, ?_, ?_⟩
        · rintro he
          rw [he] at hassoc
          nomatch hassoc
        · rintro he
          rw [he] at hassoc
          nomatch hassoc
  unfold receiveJoin
  split
  next hidle => exact answerJoin_moves session hidle
  · exact .same (outline_denyConflict _ _)
  next hup => exact hassociated (by rw [hup]; rfl)
  next hrecovery => exact hassociated (by rw [hrecovery]; rfl)
  · exact .refl
  · exact .refl

theorem receiveAccept_moves {asked : Prop} (session : Byte) (s : State) :
    Moves asked (outline s) (outline (receiveAccept session s)) := by
  unfold receiveAccept
  split
  · exact .same (outline_sendClosed _)
  next hjoining =>
    split
    · rw [outline_enterUpActive]
      exact .single (.joined _ hjoining)
    · exact .refl
  · exact heardOther_moves s
  · exact heardOther_moves s
  · exact .refl
  · exact .refl

theorem deniedJoin_moves {asked : Prop} (reason : DenyReason) {s : State} (hjoining : s.link.state = .joining) :
    Moves asked (outline s) (outline (deniedJoin reason s)) := by
  unfold deniedJoin
  extract_lets _ idle
  have hidle : outline idle = { outline s with link := .idle, reply := false } := by
    unfold idle
    rw [outline_enterLinkState]
    rfl
  have hturned : Moves asked (outline s) (outline idle) := by
    rw [hidle]
    exact turned_moves (not_leads_of_link (by rw [hjoining]; rfl)) (.inr (.inl rfl)) nofun
  split <;> exact hturned

theorem receiveDeny_moves {asked : Prop} (session : Byte) (reason : DenyReason) (s : State) :
    Moves asked (outline s) (outline (receiveDeny session reason s)) := by
  unfold receiveDeny
  split
  next hjoining =>
    split
    · exact deniedJoin_moves reason hjoining
    · exact .refl
  · exact heardOther_moves s
  · exact heardOther_moves s
  all_goals exact .refl

theorem receivePart_moves {asked : Prop} (reason : PartReason) (s : State) :
    Moves asked (outline s) (outline (receivePart reason s)) := by
  have hlost (hassoc : s.link.state.associated = true) :
      Moves asked (outline s) (outline (loseLink .peerPart (some reason) (sendClosed s))) := by
    have hclosed := outline_sendClosed s
    rw [← hclosed]
    exact loseLink_moves _ _ ((congrArg (fun x : Outline => x.link.associated) hclosed).trans hassoc)
  unfold receivePart
  split
  · exact .same (outline_sendClosed _)
  · exact .same (outline_sendClosed _)
  next hup => exact hlost (by rw [hup]; rfl)
  next hrecovery => exact hlost (by rw [hrecovery]; rfl)
  · exact .refl
  · exact .refl

theorem receiveClosed_moves {asked : Prop} (s : State) : Moves asked (outline s) (outline (receiveClosed s)) := by
  unfold receiveClosed
  split
  next hup => exact loseLink_moves _ _ (by rw [hup]; rfl)
  next hrecovery => exact loseLink_moves _ _ (by rw [hrecovery]; rfl)
  next hleaving => exact endLeaving_moves (not_leads_of_link (by rw [hleaving]; rfl))
  all_goals exact .refl

/-! ## Records -/

theorem queueRecord_moves {asked : Prop} {tseq : Byte} (r : Record) {s : State} (hup : s.link.state = .up)
    (hside : s.role.activeSide = false) (hseq : tseq = s.standby.receiveNext) (hroom : s.standby.queue.length < 16) :
    Moves asked (outline s) (outline (queueRecord tseq r s)) := by
  unfold queueRecord
  extract_lets queue _ taken _ flowed
  have htaken : outline taken =
      { outline s with queue := (outline s).queue ++ [tseq], receiveNext := (outline s).receiveNext + 1 } := by
    have hqueue : queue.map Received.tseq = (outline s).queue ++ [tseq] := List.map_append
    exact congrArg (fun q => { outline s with queue := q, receiveNext := s.standby.receiveNext + 1 }) hqueue
  have hflowed : outline flowed =
      { outline s with
        queue := (outline s).queue ++ [tseq], receiveNext := (outline s).receiveNext + 1
        holding := (outline s).holding || (outline s).queue.length == 11 } := by
    have hlength : (outline s).queue.length = s.standby.queue.length := List.length_map _
    have hqueue : queue.length = s.standby.queue.length + 1 := List.length_append
    unfold flowed
    split
    next h =>
      rw [outline_sendAck]
      have hheld : ((outline s).holding || (outline s).queue.length == 11) = true := by
        have hfull : queue.length = 12 := h.1
        rw [hlength, show s.standby.queue.length = 11 by omega]
        exact Bool.or_true _
      rw [hheld]
      exact congrArg (fun x : Outline => { x with holding := true }) htaken
    next h =>
      have hheld : ((outline s).holding || (outline s).queue.length == 11) = s.standby.holding := by
        show (s.standby.holding || _) = _
        cases hh : s.standby.holding with
        | true => rfl
        | false =>
          have : s.standby.queue.length ≠ 11 := fun h11 => h ⟨by rw [hqueue, h11], hh⟩
          simpa [hlength] using this
      rw [hheld, htaken]
      rfl
  have hmoves : Moves asked (outline s) (outline flowed) := by
    rw [hflowed, hseq]
    exact .single (.queued hup hside (by simpa [outline] using hroom))
  split
  · exact hmoves.trans (takeRecord_moves flowed)
  · exact hmoves

/-- What a heard frame leaves of the standby's queue. -/
theorem heardOther_standby (s : State) :
    (heardOther s).standby.queue = s.standby.queue ∧ (heardOther s).standby.receiveNext = s.standby.receiveNext := by
  unfold heardOther heard
  (repeat' split) <;> exact ⟨rfl, rfl⟩

theorem receiveRec_moves {asked : Prop} (tseq : Byte) (r : Record) (s : State) :
    Moves asked (outline s) (outline (receiveRec tseq r s)) := by
  unfold receiveRec
  split
  next =>
    split
    · exact .same (outline_sendClosed _)
    · exact .same (outline_sendClosed _)
    next hup =>
      extract_lets heard
      refine (heardOther_moves s).trans ?_
      split
      · exact .refl
      next hside =>
        split
        next hseq =>
          exact queueRecord_moves r (by rw [heardOther_link]; exact hup) (Bool.eq_false_iff.2 hside) hseq.1 hseq.2
        next => exact Moves.same (outline_discardRecord _)
    · exact heardOther_moves s
    · exact .refl
    · exact .refl
  next => exact .same (outline_discardFrame _)

theorem receiveAsk_moves {asked : Prop} (s : State) : Moves asked (outline s) (outline (receiveAsk s)) := by
  unfold receiveAsk
  split
  · exact .same (outline_sendClosed _)
  · exact .same (outline_sendClosed _)
  next =>
    extract_lets heard
    refine (heardOther_moves s).trans ?_
    split
    · split
      · exact Moves.same (outline_sendFrame _ _)
      · exact .refl
    · exact Moves.same (outline_sendAck _ _)
  · exact heardOther_moves s
  · exact .refl
  · exact .refl

/-! ## Acknowledgements -/

theorem removeAcknowledged_moves {asked : Prop} {aseq : Byte} {s : State} (hleads : (outline s).leads)
    (haseq : seqInRange s.link.ackPoint s.link.sendPoint aseq = true) :
    Moves asked (outline s) (outline (removeAcknowledged aseq s)) := by
  rw [outline_removeAcknowledged]
  exact .single (.acknowledged aseq hleads haseq)

theorem leads_removeAcknowledged {aseq : Byte} {s : State} (hleads : (outline s).leads) :
    (outline (removeAcknowledged aseq s)).leads := by
  rw [outline_removeAcknowledged]
  exact hleads

/-- The timer after an acknowledgement in UP or RECOVERY. -/
theorem replyAfter_moves {asked : Prop} {s : State} (hleads : (outline s).leads) (c : Prop) [Decidable c] :
    Moves asked (outline s) (outline (if c then stopReply s else startReply s)) := by
  split
  · exact .single (.replyTurned false nofun)
  · exact .single (.replyTurned true fun _ => .inl hleads)

theorem ackInUp_moves {asked : Prop} {aseq : Byte} (hold : Bool) {s : State} (hleads : (outline s).leads)
    (haseq : seqInRange s.link.ackPoint s.link.sendPoint aseq = true) :
    Moves asked (outline s) (outline (ackInUp aseq hold s)) := by
  unfold ackInUp
  refine (removeAcknowledged_moves hleads haseq).trans ?_
  have hleads' := leads_removeAcknowledged (aseq := aseq) hleads
  generalize removeAcknowledged aseq s = t at hleads' ⊢
  unfold replyAfterAck
  split
  · exact .single (.replyTurned false nofun)
  split
  · exact .single (.replyTurned true fun _ => .inl hleads')
  · exact .refl

theorem ackEndsRecovery_moves {asked : Prop} {aseq : Byte} (hold : Bool) {s : State} (hleads : (outline s).leads)
    (haseq : seqInRange s.link.ackPoint s.link.sendPoint aseq = true) :
    Moves asked (outline s) (outline (ackEndsRecovery aseq hold s)) := by
  unfold ackEndsRecovery
  refine (removeAcknowledged_moves hleads haseq).trans ?_
  have hleads' := leads_removeAcknowledged (aseq := aseq) hleads
  generalize removeAcknowledged aseq s = t at hleads' ⊢
  extract_lets _ _ up
  have hup : outline up = { outline t with link := .up } := outline_enterLinkState .up _
  clear_value up
  split
  · rw [outline_stopReply, hup]
    exact .single (.recovered false hleads')
  · have hstarted : outline (startReply { up with link.cursor := up.link.ackPoint }) = { outline up with reply := true } := rfl
    rw [hstarted, hup]
    exact .single (.recovered true hleads')

theorem takeAck_moves {asked : Prop} {aseq : Byte} (final hold : Bool) {s : State} (hleads : (outline s).leads)
    (haseq : seqInRange s.link.ackPoint s.link.sendPoint aseq = true) :
    Moves asked (outline s) (outline (takeAck aseq final hold s)) := by
  have hremoved := removeAcknowledged_moves (asked := asked) hleads haseq
  have hleads' := leads_removeAcknowledged (aseq := aseq) hleads
  unfold takeAck
  split
  · rw [outline_completeHandover hleads'.1]
    exact hremoved.tail (.stoodDown hleads')
  split
  · split
    · exact ackEndsRecovery_moves hold hleads haseq
    · unfold ackInRecovery
      generalize removeAcknowledged aseq s = t at hremoved ⊢
      exact hremoved
  · exact ackInUp_moves hold hleads haseq

theorem leads_heardOther {s : State} (hleads : (outline s).leads) : (outline (heardOther s)).leads :=
  ⟨(congrArg Role.activeSide (heardOther_role s)).trans hleads.1, by
    show (heardOther s).link.state.associated = true
    rw [heardOther_link]
    exact hleads.2⟩

theorem heardOther_points (s : State) :
    (heardOther s).link.ackPoint = s.link.ackPoint ∧ (heardOther s).link.sendPoint = s.link.sendPoint := by
  rw [heardOther_link]
  exact ⟨rfl, rfl⟩

theorem receiveAck_moves {asked : Prop} (aseq : Byte) (final hold swap : Bool) (s : State) :
    Moves asked (outline s) (outline (receiveAck aseq final hold swap s)) := by
  have hassociated (hassoc : s.link.state.associated = true) :
      Moves asked (outline s) (outline
        (if s.role.activeSide then
          if ackValid s aseq swap then takeAck aseq final hold (heardOther s) else loseLink .sequence none s
        else heardOther s)) := by
    split
    next hside =>
      split
      next hvalid =>
        rw [ackValid, Bool.and_eq_true] at hvalid
        obtain ⟨hack, hsend⟩ := heardOther_points s
        exact (heardOther_moves s).trans
          (takeAck_moves final hold (leads_heardOther ⟨hside, hassoc⟩) (by rw [hack, hsend]; exact hvalid.1))
      next => exact loseLink_moves _ _ hassoc
    next => exact heardOther_moves s
  unfold receiveAck
  split
  · exact .same (outline_sendClosed _)
  · exact .same (outline_sendClosed _)
  next hup => exact hassociated (by rw [hup]; rfl)
  next hrecovery => exact hassociated (by rw [hrecovery]; rfl)
  · exact .refl
  · exact .refl

theorem takeResend_moves {asked : Prop} {aseq : Byte} (rseq : Byte) (hold : Bool) {s : State} (hleads : (outline s).leads)
    (haseq : seqInRange s.link.ackPoint s.link.sendPoint aseq = true) :
    Moves asked (outline s) (outline (takeResend aseq rseq hold s)) := by
  unfold takeResend
  refine (removeAcknowledged_moves hleads haseq).trans ?_
  have hleads' := leads_removeAcknowledged (aseq := aseq) hleads
  generalize removeAcknowledged aseq s = t at hleads' ⊢
  extract_lets _ _ _ moved
  have hmoved : outline moved = outline t := rfl
  rw [← hmoved] at hleads' ⊢
  split
  · exact .refl
  · exact replyAfter_moves hleads' _

theorem receiveResend_moves {asked : Prop} (aseq rseq : Byte) (hold : Bool) (s : State) :
    Moves asked (outline s) (outline (receiveResend aseq rseq hold s)) := by
  have hassociated (hassoc : s.link.state.associated = true) :
      Moves asked (outline s) (outline
        (if s.role.activeSide then
          if resendValid s aseq rseq then takeResend aseq rseq hold (heardOther s) else loseLink .sequence none s
        else heardOther s)) := by
    split
    next hside =>
      split
      next hvalid =>
        simp only [resendValid, Bool.and_eq_true] at hvalid
        obtain ⟨⟨haseq, -⟩, -⟩ := hvalid
        obtain ⟨hack, hsend⟩ := heardOther_points s
        exact (heardOther_moves s).trans
          (takeResend_moves rseq hold (leads_heardOther ⟨hside, hassoc⟩) (by rw [hack, hsend]; exact haseq))
      next => exact loseLink_moves _ _ hassoc
    next => exact heardOther_moves s
  unfold receiveResend
  split
  · exact .same (outline_sendClosed _)
  · exact .same (outline_sendClosed _)
  next hup => exact hassociated (by rw [hup]; rfl)
  next hrecovery => exact hassociated (by rw [hrecovery]; rfl)
  · exact .refl
  · exact .refl

/-! ## Commands -/

/-- A role off the active side follows another. -/
theorem changeRole_moves {asked : Prop} {new : Role} {s : State}
    (hold : s.role = .unassigned ∨ s.role = .fenced ∨ s.role = .promoting ∨ (s.role = .standby ∧ s.link.state ≠ .up))
    (hnew : new ≠ .handingOver)
    (hqueue : new = .standby ∨ new = .promoting ∨ (outline s).queue = [] ∨ s.role = .unassigned ∨ s.role = .fenced) :
    Moves asked (outline s) (outline (changeRole new s)) := by
  have hside : s.role.activeSide = false := by obtain h | h | h | ⟨h, -⟩ := hold <;> rw [h] <;> rfl
  rw [outline_changeRole, Outline.assign, if_neg fun h => Bool.false_ne_true (hside.symm.trans h.1)]
  exact .single (.assigned new hold hnew hqueue)

theorem outline_discardQueue (s : State) :
    outline (discardQueue s) = { outline s with queue := [], appliedNext := s.standby.receiveNext, holding := false } := by
  unfold discardQueue
  exact (congrArg outline (dropAccess_frame .apply _) :)

theorem withdrawRole_moves {asked : Prop} {s : State} (hrole : s.role = .active ∨ s.role = .standby) :
    Moves asked (outline s) (outline (withdrawRole s)) := by
  have hnot : s.role ≠ .handingOver := by obtain h | h := hrole <;> rw [h] <;> nofun
  unfold withdrawRole
  extract_lets _ left changed
  have hleft : Moves asked (outline s) (outline left) ∧ (outline left).role = s.role ∧
      (outline left).link.associated = false ∧ (outline left).link ≠ .joining := by
    unfold left
    split
    next =>
      refine ⟨leaveAssociation_moves _ s, outline_leaveAssociation_role hnot _, ?_, ?_⟩ <;>
        rw [outline_leaveAssociation_link]
      · rfl
      · nofun
    next hassoc =>
      split
      next hjoining =>
        have hold : ¬(outline s).leads := fun hl => hassoc hl.2
        refine ⟨leaveLink_moves .roleChange (s := { s with link.retry := 0 }) hold, ?_, ?_, ?_⟩ <;> rw [outline_leaveLink]
        · rfl
        · rfl
        · nofun
      next hjoining => exact ⟨.refl, rfl, Bool.eq_false_iff.2 hassoc, hjoining⟩
  obtain ⟨hmoves, hleftRole, hassoc, hjoining⟩ := hleft
  clear_value left
  have hchanged : outline changed = (outline left).assign .unassigned := outline_changeRole _ _
  clear_value changed
  obtain hactive | hstandby := hrole
  · have hside : (outline left).role.activeSide = true := by rw [hleftRole, hactive]; rfl
    rw [if_neg (by rw [hactive]; nofun), hchanged, Outline.assign, if_pos ⟨hside, rfl⟩]
    exact hmoves.tail (.sideLeft hside hassoc hjoining)
  · have hside : (outline left).role.activeSide = false := by rw [hleftRole, hstandby]; rfl
    have hnext : changed.standby.receiveNext = (outline left).receiveNext := congrArg Outline.receiveNext hchanged
    rw [if_pos hstandby, outline_discardQueue, hnext, hchanged, Outline.assign,
      if_neg fun h => Bool.false_ne_true (hside.symm.trans h.1)]
    refine (hmoves.tail (.dropped (outline left).receiveNext (.inl rfl))).tail
      (.assigned .unassigned (.inr (.inr (.inr ⟨hleftRole.trans hstandby, ?_⟩))) nofun (.inr (.inr (.inl rfl))))
    intro hup
    have : (outline left).link = .up := hup
    rw [this] at hassoc
    nomatch hassoc

theorem startPromotion_moves {asked : Prop} {s : State} (hrole : s.role = .standby) :
    Moves asked (outline s) (outline (startPromotion s)) := by
  unfold startPromotion
  extract_lets left promoting
  have hleft : Moves asked (outline s) (outline left) ∧ (outline left).role = s.role ∧ (outline left).link ≠ .up := by
    unfold left
    split
    next =>
      refine ⟨leaveAssociation_moves _ s, outline_leaveAssociation_role (by rw [hrole]; nofun) _, ?_⟩
      rw [outline_leaveAssociation_link]
      nofun
    next hup => exact ⟨.refl, rfl, hup⟩
  obtain ⟨hmoves, hleftRole, hup⟩ := hleft
  clear_value left
  have hpromoting : Moves asked (outline s) (outline promoting) :=
    hmoves.trans (changeRole_moves (.inr (.inr (.inr ⟨hleftRole.trans hrole, hup⟩))) nofun (.inr (.inl rfl)))
  have hnew : promoting.role = .promoting := changeRole_role .promoting left
  clear_value promoting
  split
  next hqueue =>
    rw [outline_completePromotion]
    exact hpromoting.tail (.assigned .active (.inr (.inr (.inl hnew))) nofun
      (.inr (.inr (.inl (by simp [outline, List.isEmpty_iff.1 hqueue])))))
  next => exact hpromoting

theorem startHandover_moves {asked : Prop} {s : State} (hrole : s.role = .active) (hup : s.link.state = .up)
    (hfree : freeEntries s ≠ 0) : Moves asked (outline s) (outline (startHandover s)) := by
  have hside : s.role.activeSide = true := congrArg Role.activeSide hrole
  unfold startHandover
  extract_lets handing
  have happended := appendEntry_moves (asked := asked) (e := { body := .takeover, state := .pending }) rfl
    (fun _ => ⟨hside, congrArg LinkState.associated hup⟩) (Nat.pos_of_ne_zero hfree)
  have hhanding : outline handing = (outline (appendEntry { body := .takeover, state := .pending } s)).assign .handingOver :=
    outline_changeRole _ _
  clear_value handing
  rw [Outline.assign, if_neg (by simp [Role.activeSide])] at hhanding
  show Moves asked (outline s) (outline handing)
  rw [hhanding]
  exact happended.tail (.sideKept .handingOver hside (.inr ⟨rfl, hup⟩))

theorem enableLink_moves {asked : Prop} (s : State) : Moves asked (outline s) (outline (enableLink s)) := by
  unfold enableLink
  extract_lets _ enabled entered
  split
  next hoffline =>
    have hidle : outline entered = { outline s with link := .idle } := outline_enterLinkState .idle enabled
    show Moves asked (outline s) (outline entered)
    rw [hidle]
    have hoff : s.link.state = .offline := hoffline
    exact turned_moves (not_leads_of_link (by rw [hoff]; rfl)) (.inr (.inl rfl)) fun h =>
      .inr ⟨h, by rw [hoff]; nofun, by rw [hoff]; nofun⟩
  next => exact .refl

theorem disableLink_moves {asked : Prop} (s : State) : Moves asked (outline s) (outline (disableLink s)) := by
  unfold disableLink
  extract_lets _ disabled
  have hdisabled : outline disabled = outline s := rfl
  rw [← hdisabled]
  split
  · exact .refl
  · exact .refl
  next hidle =>
    rw [outline_enterLinkState]
    exact turned_moves (not_leads_of_link (by rw [hidle]; rfl)) (.inl rfl) fun h =>
      .inr ⟨h, by rw [hidle]; nofun, by rw [hidle]; nofun⟩
  next hjoining => exact leaveLink_moves .disabled (s := { disabled with link.retry := 0 }) (not_leads_of_link (congrArg LinkState.associated hjoining))
  · exact leaveAssociation_moves _ _
  · exact leaveAssociation_moves _ _

theorem openCheckpoint_moves {asked : Prop} (i : SlotId) (tag : Byte) {s : State} (hrole : s.role.activeSide = true)
    (hlink : s.link.state.associated = true) (hfree : freeEntries s ≠ 0) :
    Moves asked (outline s) (outline (openCheckpoint i tag s)) := by
  have hseqs := sequences_placeMark (tag := tag) (i := i)
    { s with slots := s.slots.set i { state := .opened, tag := tag, taint := !allInSync s } }
  have heq : outline (openCheckpoint i tag s) = { outline s with seqs := (outline s).seqs ++ [none] } :=
    congrArg (fun q => { outline s with seqs := q }) hseqs
  rw [heq]
  refine .single (.appended (fun _ => ⟨hrole, hlink⟩) ?_)
  rw [freeEntries] at hfree
  simpa [outline, sequences] using Nat.lt_of_sub_pos (Nat.pos_of_ne_zero hfree)

/-! ## Every event -/

theorem Event.moves {c : Instr} {s u : State} (h : Event s c u) : Moves (requestFits s = true) (outline s) (outline u) := by
  cases h with
  | grant => exact grant_moves s
  | completion => exact completeAccess_moves s
  | recordTaken => exact takeNext_moves s
  | stallExpiry => exact expireStall_moves s
  | rejoinExpiry => exact expireRejoin_moves s
  | replyExpiry => exact expireReply_moves s
  | quietExpiry => exact expireQuiet_moves s
  | silenceExpiry => exact expireSilence_moves s
  | handoverExpiry => exact expireHandover_moves s
  | joinFrame session => exact receiveJoin_moves session s
  | acceptFrame session => exact receiveAccept_moves session s
  | denyFrame session reason => exact receiveDeny_moves session reason s
  | partFrame reason => exact receivePart_moves reason s
  | closedFrame => exact receiveClosed_moves s
  | recFrame tseq r => exact receiveRec_moves tseq r s
  | ackFrame aseq final hold swap => exact receiveAck_moves aseq final hold swap s
  | resendFrame aseq rseq hold => exact receiveResend_moves aseq rseq hold s
  | askFrame => exact receiveAsk_moves s
  | windowWritten w new => exact .same (outline_changeWindow w new s)
  | rangeMarked => exact .refl
  | activated hrole =>
    rw [outline_becomeActiveMarked]
    exact .single (.assigned .active (.inl hrole) nofun (.inr (.inr (.inr (.inl hrole)))))
  | stoodBy htarget hrole =>
    refine changeRole_moves ?_ nofun (.inl rfl)
    exact hrole.imp_right .inl
  | unfenced htarget hrole => exact changeRole_moves (.inr (.inl hrole)) nofun (.inr (.inr (.inr (.inr hrole))))
  | withdrawn hrole => exact withdrawRole_moves hrole
  | promotedFenced hrole =>
    rw [outline_completePromotion]
    exact .single (.assigned .active (.inr (.inl hrole)) nofun (.inr (.inr (.inr (.inr hrole)))))
  | promoted hrole => exact startPromotion_moves hrole
  | handedOver hrole hup hidle hfree => exact startHandover_moves hrole hup hfree
  | linkEnabled => exact enableLink_moves s
  | linkDisabled => exact disableLink_moves s
  | checkpointOpened i hrole hlink hfree => exact openCheckpoint_moves i _ hrole hlink hfree
  | pathWritten p hp => exact .refl

end Sys2Proof.Machine

namespace Sys2Proof.Machine

open Sys2Proof

/-! ## The checks of Safety.lean over the outline -/

theorem journalFits_iff (s : State) : journalFits s = true ↔ (outline s).seqs.length ≤ 64 := by
  simp [journalFits, outline, sequences, Config.journalEntries]

theorem journalHome_iff (s : State) : journalHome s = true ↔ (outline s).Home := by
  simp [journalHome, Outline.Home, Outline.leads, outline, sequences]

theorem sentInOrder_iff (a : Byte) (es : List Entry) :
    sentInOrder a es = true ↔ ∃ k m, sequences es = sentFirst a k m := by
  induction es generalizing a with
  | nil => exact iff_of_true rfl ⟨0, 0, rfl⟩
  | cons e rest ih =>
    have hplain (hnone : e.state.sequence = none) (hrest : rest.all (fun x => !x.state.isSent) = true ↔ ∀ q ∈ sequences rest, q = none) :
        rest.all (fun x => !x.state.isSent) = true ↔ ∃ k m, sequences (e :: rest) = sentFirst a k m := by
      rw [hrest]
      constructor
      · intro hall
        refine ⟨0, rest.length + 1, ?_⟩
        have := List.eq_replicate_iff.2 ⟨rfl, hall⟩
        rw [sequences, List.map_cons, hnone, ← sequences, this, sequences, List.length_map]
        rfl
      · rintro ⟨k, m, h⟩ q hq
        rw [sequences, List.map_cons, hnone] at h
        cases k with
        | zero =>
          cases m with
          | zero => nomatch h
          | succ m =>
            obtain ⟨-, h⟩ := List.cons.inj h
            rw [sequences, h] at hq
            exact List.eq_of_mem_replicate hq
        | succ k => nomatch (List.cons.inj h).1
    have hall : rest.all (fun x => !x.state.isSent) = true ↔ ∀ q ∈ sequences rest, q = none := by
      rw [List.all_eq_true, sequences, List.forall_mem_map]
      refine forall_congr' fun x => imp_congr_right fun _ => ?_
      cases x.state <;> simp [EntryState.isSent, EntryState.sequence]
    obtain ⟨b, x⟩ := e
    cases x with
    | filling => exact hplain rfl hall
    | pending => exact hplain rfl hall
    | sent q n =>
      rw [sentInOrder, Bool.and_eq_true, beq_iff_eq, ih]
      constructor
      · rintro ⟨rfl, k, m, h⟩
        exact ⟨k + 1, m, congrArg (some q :: ·) h⟩
      · rintro ⟨k, m, h⟩
        cases k with
        | zero =>
          cases m with
          | zero => nomatch h
          | succ m => nomatch (List.cons.inj h).1
        | succ k =>
          obtain ⟨hq, h⟩ := List.cons.inj h
          exact ⟨Option.some.inj hq, k, m, h⟩

theorem journalOrdered_iff (s : State) (hwindow : s.linkParams.window.toNat ≤ 32) :
    journalOrdered s = true ↔ (outline s).SentFits := by
  have hleads : (!(s.role.activeSide && s.link.state.associated) ||
      s.link.sendPoint == s.link.ackPoint + BitVec.ofNat 8 (sentEntries s)) = true ↔
        ((outline s).leads → s.link.sendPoint = s.link.ackPoint + BitVec.ofNat 8 (sentEntries s)) := by
    simp [Outline.leads, outline, imp_iff_not_or]
  rw [journalOrdered, Bool.and_eq_true, Bool.and_eq_true, sentInOrder_iff, hleads, decide_eq_true_iff, and_assoc]
  constructor
  · rintro ⟨⟨k, m, hseqs⟩, hsend, hcount⟩
    rw [sentEntries_eq, hseqs, countP_sentFirst] at hsend hcount
    exact ⟨hwindow, k, m, hseqs, hsend, hcount⟩
  · rintro ⟨-, k, m, hseqs, hsend, hk⟩
    have hcount : sentEntries s = k := by
      rw [sentEntries_eq, show sequences s.journal = _ from hseqs, countP_sentFirst]
    exact ⟨⟨k, m, hseqs⟩, by rwa [hcount], by rwa [hcount]⟩

theorem linkTimersFit_iff (s : State) :
    linkTimersFit s = true ↔
      ((outline s).quiet = true → (outline s).leads) ∧
      ((outline s).reply = true → (outline s).link = .joining ∨ (outline s).link = .leaving ∨ (outline s).leads) := by
  unfold linkTimersFit
  rw [Bool.and_eq_true]
  refine and_congr ?_ ?_
  · cases hq : s.link.quietTimer <;> simp [outline, hq, QuietTimer.stands, Outline.leads]
  · cases hr : s.link.replyTimer <;> simp [outline, hr, Outline.leads, or_assoc]

theorem linkFitsRole_iff (s : State) : linkFitsRole s = true ↔ (outline s).LinkFits := by
  have hhanding : (s.role != .handingOver || s.link.state.associated) = true ↔
      ((outline s).role = .handingOver → (outline s).link.associated = true) := by
    simp [outline, imp_iff_not_or]
  unfold linkFitsRole
  rw [Bool.and_eq_true, Bool.and_eq_true, linkTimersFit_iff, hhanding]
  constructor
  · rintro ⟨⟨⟨hquiet, hreply⟩, hsuits⟩, hhanding⟩
    refine ⟨hquiet, hreply, ?_, hhanding⟩
    show s.link.state.suits s.role
    revert hsuits
    cases s.link.state <;> simp [LinkState.suits]
  · rintro ⟨hquiet, hreply, hsuits, hhanding⟩
    refine ⟨⟨⟨hquiet, hreply⟩, ?_⟩, hhanding⟩
    have hsuits : s.link.state.suits s.role := hsuits
    revert hsuits
    cases s.link.state <;> simp [LinkState.suits]

theorem queueInOrder_iff (p : Byte) (q : List Received) : queueInOrder p q = true ↔ q.map Received.tseq = run p q.length := by
  induction q generalizing p with
  | nil => exact iff_of_true rfl rfl
  | cons r rest ih => simp [queueInOrder, run, ih]

theorem queueFits_iff (s : State) : (queueSound s = true ∧ holdFits s = true) ↔ (outline s).QueueFits := by
  have hhold : holdFits s = true ↔
      if (outline s).holding = true then 4 < (outline s).queue.length else (outline s).queue.length < 12 := by
    unfold holdFits outline
    split <;> simp [Config.readyAt, Config.holdAt]
  have hqueue : queueSound s = true ↔ ((outline s).queue.length ≤ 16 ∧
      (outline s).receiveNext = (outline s).appliedNext + BitVec.ofNat 8 (outline s).queue.length ∧
      (outline s).queue = run (outline s).appliedNext (outline s).queue.length ∧
      ((outline s).queue = [] ∨ (outline s).role = .standby ∨ (outline s).role = .promoting)) := by
    unfold queueSound
    simp only [Bool.and_eq_true, queueInOrder_iff, Bool.or_eq_true, decide_eq_true_iff, beq_iff_eq, List.isEmpty_iff]
    simp [outline, and_assoc, or_assoc, Config.queueRecords]
  rw [hqueue, hhold]
  constructor
  · rintro ⟨⟨h1, h2, h3, h4⟩, h5⟩
    exact ⟨h1, h2, h3, h4, h5⟩
  · rintro ⟨h1, h2, h3, h4, h5⟩
    exact ⟨⟨h1, h2, h3, h4⟩, h5⟩

/-! ## The first-read request (R113, R114) -/

/-- The end of an event leaves a request only where the engine may run. -/
theorem settle_requestFits (before s : State) : requestFits (settle before s) = true := by
  have hrequest (t : State) : requestFits (settleRequest before t) = true := by
    unfold settleRequest
    split
    next p requesting hw =>
      split
      · rfl
      next hmay =>
        have hmay : resyncMayRun t = true := Bool.not_eq_false _ ▸ hmay
        split
        next hrequesting =>
          split
          · unfold requestFits
            split
            · exact hmay
            all_goals rfl
          · rw [requestFits, hw, hrequesting]
            exact hmay
        next hrequesting =>
          split
          · exact hmay
          · rw [requestFits, hw, Bool.eq_false_iff.2 hrequesting]
    next hidle => rw [requestFits, hidle]
    next hreading => rw [requestFits, hreading]
  have hrun (t : State) : requestFits (settleRun before t) = requestFits t := (congrArg requestFits (settleRun_frame before t) :)
  have hrejoin (t : State) : requestFits (settleRejoin t) = requestFits t := rfl
  have hnote (t : State) : requestFits (noteSync before t) = requestFits t := (congrArg requestFits (noteSync_frame before t) :)
  rw [settle, hnote, hrejoin, hrun, hrequest]

theorem DeskOnly.requestFits {s t : State} (h : DeskOnly s t) : requestFits t = requestFits s := by
  unfold DeskOnly at h
  rw [h]
  rfl

theorem present_elsewhere (a : Access) (s : State) :
    { present a s with upstream := s.upstream, ending := s.ending } = s := by
  unfold present
  (repeat' split) <;> rfl

theorem decideRec_requestFits (s : State) : requestFits (decideRec s) = requestFits s := by
  unfold decideRec transmitFirst retransmit
  dsimp only
  (repeat' split) <;> rfl

theorem Effect.requestFits {c : Instr} {s t : State} (h : Effect c s t) (hs : requestFits s = true) : requestFits t = true := by
  cases h with
  | desk h => rw [h.requestFits, hs]
  | event he h => rw [h.requestFits, settle_requestFits]
  | unsettled hu h =>
    rw [h.requestFits]
    cases hu with
    | presented a => exact (congrArg Machine.requestFits (present_elsewhere a s) :).trans hs
    | recDecided => rw [decideRec_requestFits, hs]
    | linkWritten p hp => exact hs
    | softReset => rfl
    | pinReset => rfl

/-! ## The parameters (R46, R172) -/

/-- A written window leaves the parameters. -/
theorem changeWindow_params (w : WindowId) (new : Window) (s : State) :
    (changeWindow w new s).linkParams = s.linkParams ∧ (changeWindow w new s).pathParams = s.pathParams := by
  have htracked := windowTracked_frame w new s
  rw [changeWindow_eq]
  split
  · obtain ⟨⟨-, -, -, hlink, hpath⟩, -⟩ := representHeld_routine (windowTracked w new s)
    exact ⟨hlink.trans (congrArg State.linkParams htracked :), hpath.trans (congrArg State.pathParams htracked :)⟩
  · exact ⟨(congrArg State.linkParams htracked :), (congrArg State.pathParams htracked :)⟩

theorem Event.paramsInRange {c : Instr} {s u : State} (h : Event s c u) (hs : paramsInRange s = true) : paramsInRange u = true := by
  have hkept (hlink : u.linkParams = s.linkParams) (hpath : u.pathParams = s.pathParams) : Machine.paramsInRange u = true := by
    rw [Machine.paramsInRange, hlink, hpath]
    exact hs
  obtain ⟨⟨-, -, -, hlink, hpath⟩, -⟩ | ⟨-, p, -, ⟨-, -, -, hlink, hpath⟩, -⟩ | ⟨w, new, rfl, -⟩ | ⟨p, hp, rfl⟩ := h.routine
  · exact hkept hlink hpath
  · exact hkept hlink hpath
  · exact hkept (changeWindow_params w new s).1 (changeWindow_params w new s).2
  · rw [Machine.paramsInRange, Bool.and_eq_true] at hs ⊢
    exact ⟨hs.1, hp⟩

theorem Effect.paramsInRange {c : Instr} {s t : State} (h : Effect c s t) (hs : paramsInRange s = true) : paramsInRange t = true := by
  have hkept {u v : State} (hr : Routine u v) (hu : Machine.paramsInRange u = true) : Machine.paramsInRange v = true := by
    obtain ⟨⟨-, -, -, hlink, hpath⟩, -⟩ := hr
    rw [Machine.paramsInRange, hlink, hpath]
    exact hu
  cases h with
  | desk h => exact hkept h.routine hs
  | event he h => exact hkept ((settle_routine s _).trans h.routine) (he.paramsInRange hs)
  | unsettled hu h =>
    refine hkept h.routine ?_
    cases hu with
    | presented a => exact hkept (present_routine a s) hs
    | recDecided => exact hkept (decideRec_routine s) hs
    | linkWritten p hp =>
      rw [Machine.paramsInRange, Bool.and_eq_true] at hs ⊢
      exact ⟨hp, hs.2⟩
    | softReset =>
      obtain ⟨⟨-, -, -, hlink, hpath⟩, -⟩ := representHeld_routine s
      show ((representHeld s).linkParams.inRange && (representHeld s).pathParams.inRange) = true
      rw [hlink, hpath]
      exact hs
    | pinReset =>
      have hreset : Machine.paramsInRange State.reset = true := by decide
      exact hreset

/-! ## What every command keeps of the outline -/

/-- The outline after a command: moves of the one before, the transmit window written, or the reset's. -/
theorem Effect.outline {c : Instr} {s t : State} (h : Effect c s t) :
    Moves (Machine.requestFits s = true) (outline s) (outline t) ∨
    (∃ p : LinkParams, p.inRange = true ∧ outline t = { outline s with window := p.window.toNat }) ∨
    ∃ p : LinkParams, (p = s.linkParams ∨ p.inRange = true) ∧ outline t = outline { State.reset with linkParams := p } := by
  cases h with
  | desk h => exact .inl (Moves.same h.outline)
  | event he h =>
    rw [h.outline, outline_settle]
    exact .inl he.moves
  | unsettled hu h =>
    rw [h.outline]
    cases hu with
    | presented a => exact .inl (Moves.same (congrArg Machine.outline (present_elsewhere a s) :))
    | recDecided => exact .inl (decideRec_moves s)
    | linkWritten p hp => exact .inr (.inl ⟨p, hp, rfl⟩)
    | softReset =>
      obtain ⟨⟨-, -, -, hlink, -⟩, -⟩ := representHeld_routine s
      refine .inr (.inr ⟨(representHeld s).linkParams, .inl hlink, rfl⟩)
    | pinReset => exact .inr (.inr ⟨LinkParams.reset, .inr (by decide), rfl⟩)

theorem LinkParams.window_le {p : LinkParams} (h : p.inRange = true) : p.window.toNat ≤ 32 := by
  simp only [LinkParams.inRange, Bool.and_eq_true, decide_eq_true_iff] at h
  omega

/-! ## The statements -/

/-- The reset's outline fits. -/
theorem reset_linkFits (p : LinkParams) : (outline { State.reset with linkParams := p }).LinkFits :=
  ⟨nofun, nofun, trivial, nofun⟩

theorem Effect.fits {c : Instr} {s t : State} (h : Effect c s t) (hs : (Machine.outline s).seqs.length ≤ 64) :
    (Machine.outline t).seqs.length ≤ 64 := by
  obtain hmoves | ⟨p, -, heq⟩ | ⟨p, -, heq⟩ := h.outline
  · exact hmoves.keep (P := fun x => x.seqs.length ≤ 64) (fun _ _ => Move.fits) hs
  · rw [heq]
    exact hs
  · rw [heq]
    exact Nat.zero_le _

theorem Effect.home {c : Instr} {s t : State} (h : Effect c s t) (hrequest : Machine.requestFits s = true)
    (hs : (Machine.outline s).Home) : (Machine.outline t).Home := by
  obtain hmoves | ⟨p, -, heq⟩ | ⟨p, -, heq⟩ := h.outline
  · exact hmoves.keep (fun _ _ => Move.home hrequest) hs
  · rw [heq]
    exact hs
  · rw [heq]
    exact .inl rfl

theorem Effect.linkFits {c : Instr} {s t : State} (h : Effect c s t) (hs : (Machine.outline s).LinkFits) :
    (Machine.outline t).LinkFits := by
  obtain hmoves | ⟨p, -, heq⟩ | ⟨p, -, heq⟩ := h.outline
  · exact hmoves.keep (fun _ _ => Move.linkFits) hs
  · rw [heq]
    exact ⟨hs.quiet, hs.reply, hs.suits, hs.handing⟩
  · rw [heq]
    exact reset_linkFits p

theorem Effect.queueFits {c : Instr} {s t : State} (h : Effect c s t) (hlink : (Machine.outline s).LinkFits)
    (hs : (Machine.outline s).QueueFits) : (Machine.outline t).QueueFits := by
  obtain hmoves | ⟨p, -, heq⟩ | ⟨p, -, heq⟩ := h.outline
  · refine (hmoves.keep (P := fun x => x.LinkFits ∧ x.QueueFits) (fun _ _ hm hx => ?_) ⟨hlink, hs⟩).2
    exact ⟨hm.linkFits hx.1, hm.queueFits hx.1 hx.2⟩
  · rw [heq]
    exact ⟨hs.fits, hs.ends, hs.order, hs.role, hs.hold⟩
  · rw [heq]
    exact .empty rfl rfl rfl

theorem Effect.sentFits {c : Instr} {s t : State} (h : Effect c s t) (hrequest : Machine.requestFits s = true)
    (hhome : (Machine.outline s).Home) (hlink : (Machine.outline s).LinkFits)
    (hs : (Machine.outline s).SentFits) : (Machine.outline t).SentFits := by
  obtain hmoves | ⟨p, hp, heq⟩ | ⟨p, hp, heq⟩ := h.outline
  · refine (hmoves.keep (P := fun x => x.Home ∧ x.LinkFits ∧ x.SentFits) (fun _ _ hm hx => ?_) ⟨hhome, hlink, hs⟩).2.2
    obtain ⟨hhome, hlink, hsent⟩ := hx
    exact ⟨hm.home hrequest hhome, hm.linkFits hlink, hm.sentFits hhome hlink hsent⟩
  · obtain ⟨-, horder⟩ := hs
    rw [heq]
    exact ⟨p.window_le hp, horder⟩
  · have hwindow : p.window.toNat ≤ 32 := by
      obtain rfl | hp := hp
      · exact hs.1
      · exact p.window_le hp
    rw [heq]
    exact .empty hwindow rfl fun _ => rfl

/-! ## The statements -/

/-- Settles O55: every move keeps the journal within its places and at home, and every event ends with a request that fits. -/
theorem journalStaysHome : Obligations.JournalStaysHome := by
  intro s t hfits hhome hrequest ht
  rw [journalFits_iff, journalHome_iff] at *
  obtain ⟨⟨hfits, hhome⟩, hrequest⟩ :=
    step_keeps (P := fun s => ((outline s).seqs.length ≤ 64 ∧ (outline s).Home) ∧ requestFits s = true) (fun _ _ h => h)
      (fun h hs => ⟨⟨h.fits hs.1.1, h.home hs.2 hs.1.2⟩, h.requestFits hs.2⟩) ht ⟨⟨hfits, hhome⟩, hrequest⟩
  exact ⟨hfits, hhome, hrequest⟩

/-- What the order of the SENT entries rests on. -/
structure OrderRests (s : State) : Prop where
  sent : (outline s).SentFits
  home : (outline s).Home
  link : (outline s).LinkFits
  request : requestFits s = true
  params : paramsInRange s = true

/-- Settles O56: the SENT entries stay in order along every move that keeps the journal at home and link and role together. -/
theorem sentEntriesStayInOrder : Obligations.SentEntriesStayInOrder := by
  intro s t horder hhome hrequest hlink hparams ht
  have hwindow {u : State} (hu : paramsInRange u = true) : u.linkParams.window.toNat ≤ 32 := by
    rw [paramsInRange, Bool.and_eq_true] at hu
    exact LinkParams.window_le hu.1
  rw [journalHome_iff, linkFitsRole_iff] at *
  have hrests : OrderRests s := ⟨(journalOrdered_iff s (hwindow hparams)).1 horder, hhome, hlink, hrequest, hparams⟩
  obtain ⟨hsent, hhome, hlink, hrequest, hparams⟩ :=
    step_keeps (P := OrderRests) (fun _ _ ⟨hs, hh, hl, hr, hp⟩ => ⟨hs, hh, hl, hr, hp⟩)
      (fun h hs => ⟨h.sentFits hs.request hs.home hs.link hs.sent, h.home hs.request hs.home, h.linkFits hs.link,
        h.requestFits hs.request, h.paramsInRange hs.params⟩) ht hrests
  exact ⟨(journalOrdered_iff t (hwindow hparams)).2 hsent, hhome, hrequest, hlink, hparams⟩

/-- Settles O57: the apply queue stays sound along every move that keeps link and role together. -/
theorem applyQueueStaysSound : Obligations.ApplyQueueStaysSound := by
  intro s t hqueue hhold hlink ht
  rw [linkFitsRole_iff] at *
  obtain ⟨hlink, hqueue⟩ :=
    step_keeps (P := fun s => (outline s).LinkFits ∧ (outline s).QueueFits) (fun _ _ h => h)
      (fun h hs => ⟨h.linkFits hs.1, h.queueFits hs.1 hs.2⟩) ht ⟨hlink, (queueFits_iff s).1 ⟨hqueue, hhold⟩⟩
  obtain ⟨hsound, hhold⟩ := (queueFits_iff t).2 hqueue
  exact ⟨hsound, hhold, hlink⟩

end Sys2Proof.Machine

/-! # The management port: records, reads and parameters (O3, O8 to O11, O13, O17) -/

namespace Sys2Proof.Machine

open Sys2Proof

/-- Settles O1: the front command is the one `step` runs. -/
theorem stepRunsFrontCommand : Obligations.StepRunsFrontCommand := fun _ _ _ => rfl

/-- Settles O54: each check evaluates on the state after RESET#. -/
theorem resetIsSafe : Obligations.ResetIsSafe := by
  unfold Obligations.ResetIsSafe
  decide

/-! ## The record of a command (R163, R164) -/

/-- What the record of a command tells of it: its code, slot 0 but for an accepted CHECKPOINT, and nothing else changed by a refusal. -/
def LeavesRecord (c : Instr) (code : Byte) (s t : State) : Prop :=
  t.lastResult.code = code ∧
  (t.lastResult.slot ≠ 0 → (∃ tag, c = .checkpoint tag) ∧ t.lastResult.result = .ok) ∧
  (t.lastResult.result ≠ .ok → { t with lastResult := s.lastResult, dataOut := s.dataOut, spi := s.spi } = s)

theorem LeavesRecord.answered (c : Instr) (code : Byte) {r : Result} (data : List Byte) {s t : State} (h : r = .ok ∨ t = s) :
    LeavesRecord c code s (answer code r 0 data t) := by
  refine ⟨rfl, fun h0 => absurd rfl h0, fun hr => ?_⟩
  obtain rfl | rfl := h
  · exact absurd rfl hr
  · rfl

@[simp] theorem LeavesRecord.refuse (c : Instr) (code : Byte) (r : Result) (s : State) : LeavesRecord c code s (refuse code r s) :=
  .answered c code [] (.inr rfl)

@[simp] theorem LeavesRecord.accept (c : Instr) (code : Byte) (s t : State) : LeavesRecord c code s (accept code t) :=
  .answered c code [] (.inl rfl)

@[simp] theorem LeavesRecord.readOut (c : Instr) (code : Byte) (data : List Byte) (s t : State) :
    LeavesRecord c code s (readOut code data t) := .answered c code data (.inl rfl)

@[simp] theorem LeavesRecord.refuseRead (c : Instr) (code : Byte) (n : Nat) (s : State) :
    LeavesRecord c code s (refuseRead code n s) := .answered c code (zeros n) (.inr rfl)

/-- An accepted CHECKPOINT records its slot. -/
theorem LeavesRecord.opened (tag code : Byte) (i : SlotId) (s t : State) :
    LeavesRecord (.checkpoint tag) code s (answer code .ok i [] t) :=
  ⟨rfl, fun _ => ⟨⟨tag, rfl⟩, rfl⟩, fun hr => absurd rfl hr⟩

theorem writeWindow_leavesRecord (c : Instr) (number mode : Byte) (base : ByteAddr) (sizeExp policy : Byte) (s : State) :
    LeavesRecord c 0x61#8 s (writeWindow number mode base sizeExp policy s) := by
  unfold writeWindow
  (repeat' split) <;> simp

theorem markWindow_leavesRecord (c : Instr) (number first last : Byte) (s : State) :
    LeavesRecord c 0x63#8 s (markWindow number first last s) := by
  unfold markWindow
  (repeat' split) <;> simp

theorem setRole_leavesRecord (c : Instr) (target : Byte) (s : State) : LeavesRecord c 0x70#8 s (setRole target s) := by
  unfold setRole
  split <;> simp

theorem promote_leavesRecord (c : Instr) (force : Byte) (s : State) : LeavesRecord c 0x71#8 s (promote force s) := by
  unfold promote
  (repeat' split) <;> simp

theorem handover_leavesRecord (c : Instr) (s : State) : LeavesRecord c 0x72#8 s (handover s) := by
  unfold handover
  (repeat' split) <;> simp

theorem checkpoint_leavesRecord (tag : Byte) (s : State) : LeavesRecord (.checkpoint tag) 0x80#8 s (checkpoint tag s) := by
  unfold checkpoint
  (repeat' split) <;> simp [LeavesRecord.opened]

theorem releaseCheckpoint_leavesRecord (c : Instr) (slot : Byte) (s : State) :
    LeavesRecord c 0x82#8 s (releaseCheckpoint slot s) := by
  unfold releaseCheckpoint
  (repeat' split) <;> simp

theorem readStatistics_leavesRecord (c : Instr) (selector clear : Byte) (s : State) :
    LeavesRecord c 0x88#8 s (readStatistics selector clear s) := by
  unfold readStatistics
  (repeat' split) <;> simp

theorem writePathParameters_leavesRecord (c : Instr) (p : PathParams) (s : State) :
    LeavesRecord c 0x8A#8 s (writePathParameters p s) := by
  unfold writePathParameters
  split <;> simp

/-- Every management command leaves its record. -/
theorem exec_leavesRecord {c : Instr} {code : Byte} {params : List Byte} {s : State}
    (hbytes : transferBytes c = some (code :: params)) (h : s.resetLow = false) :
    ∃ t, exec c s = .next t ∧ LeavesRecord c code s t := by
  have live {f : State → State} (hf : LeavesRecord c code s (f s)) : ∃ t, whenLive f s = .next t ∧ LeavesRecord c code s t :=
    ⟨f s, whenLive_high f s h, hf⟩
  cases c <;> cases hbytes <;> unfold exec <;> refine live ?_
  case readWindow number => split <;> simp
  case readTrackMap number => split <;> simp
  case linkControlEnable operation => split <;> simp
  case linkControlDisable operation => split <;> simp
  case writeLinkParameters window reply retries quiet rejoin =>
    dsimp only
    (repeat' split) <;> simp
  case writeWindow number mode base sizeExp policy => exact writeWindow_leavesRecord ..
  case markWindow number first last => exact markWindow_leavesRecord ..
  case setRole target => exact setRole_leavesRecord ..
  case promote force => exact promote_leavesRecord ..
  case handover => exact handover_leavesRecord ..
  case checkpoint tag => exact checkpoint_leavesRecord ..
  case releaseCheckpoint slot => exact releaseCheckpoint_leavesRecord ..
  case readStatistics selector clear => exact readStatistics_leavesRecord ..
  case writePathParameters stall fairness reserve handoverTime => exact writePathParameters_leavesRecord ..
  all_goals simp

/-- Settles O3: the record command by command, the transfers without a command, and the fields `answer` writes. -/
theorem commandLeavesItsRecord : Obligations.CommandLeavesItsRecord := by
  refine ⟨fun c code params s hbytes h => exec_leavesRecord hbytes h, fun s h => ?_, fun code r slot data s => ?_⟩
  · exact ⟨whenLive_high _ s h, fun _ => whenLive_high _ s h, fun _ => whenLive_high _ s h⟩
  · exact ⟨rfl, rfl, fun hw => if_neg hw, fun hw => if_pos hw, rfl⟩

/-! ## Status and state (R44, R147, R166, R171, R172) -/

/-- The bits of the flags byte of READ STATUS. -/
theorem statusFlags_bits (enable flow irq : Bool) (held : Fin 3) :
    let b := bitAt enable 0 ||| bitAt flow 1 ||| bitAt irq 2 ||| (BitVec.ofNat 8 held.val <<< 4)
    b.getLsbD 0 = enable ∧ b.getLsbD 1 = flow ∧ b.getLsbD 2 = irq ∧ b.getLsbD 3 = false ∧ (b.getLsbD 4 = true ↔ held = 1) ∧
      (b.getLsbD 5 = true ↔ held = 2) ∧ b.getLsbD 6 = false ∧ b.getLsbD 7 = false := by
  revert enable flow irq held
  decide

/-- The code of the held-write slot: EMPTY, STALL or HANDOVER. -/
theorem heldCode_cases (u : Upstream) :
    ∃ k : Fin 3, heldCode u = BitVec.ofNat 8 k.val ∧ (k = 1 ↔ ∃ a w, u = .held a w .stall) ∧
      (k = 2 ↔ ∃ a w, u = .held a w .handover) := by
  cases u with
  | none => exact ⟨0, rfl, by simp, by simp⟩
  | requesting a forced => exact ⟨0, rfl, by simp, by simp⟩
  | inProgress a => exact ⟨0, rfl, by simp, by simp⟩
  | held a w r =>
    cases r with
    | stall => exact ⟨1, rfl, by simp, by simp⟩
    | handover => exact ⟨2, rfl, by simp, by simp⟩

/-- Settles O8: the codes evaluate; the flags byte is four fields, each of its own bits. -/
theorem statusRead : Obligations.StatusRead := by
  refine ⟨rfl, rfl, rfl, fun s h => ⟨_, whenLive_high _ s h, ?_⟩⟩
  obtain ⟨k, hk, hstall, hhandover⟩ := heldCode_cases s.upstream
  rw [hk, ← hstall, ← hhandover]
  have hflow : flowFlag s = if s.role = .active ∨ s.role = .handingOver then s.link.peerHold else s.standby.holding := by
    simp [flowFlag, Role.activeSide_iff]
  rw [← hflow]
  exact statusFlags_bits _ _ _ k

/-- The bits of the flags byte of READ LINK STATE. -/
theorem linkFlags_bits (enable suspended exception : Bool) :
    let b := bitAt enable 0 ||| bitAt suspended 1 ||| bitAt exception 2
    b.getLsbD 0 = enable ∧ b.getLsbD 1 = suspended ∧ b.getLsbD 2 = exception ∧ b.extractLsb' 3 5 = 0#5 := by
  revert enable suspended exception
  decide

theorem countByte_eq (s : State) {p q : Entry → Bool} (h : ∀ e, p e = q e) : countByte s p = BitVec.ofNat 8 (s.journal.countP q) := by
  rw [countByte, funext h]

theorem peerPartCode_eq (p : Option PartReason) :
    peerPartCode p = match p with | none => 0x00#8 | some .disabled => 0x01#8 | some .roleChange => 0x02#8 := by
  cases p with
  | none => rfl
  | some r => cases r <;> rfl

theorem Slot.bytes_eq (x : Slot) : x.bytes = [x.state.code ||| (if x.taint then 0x80#8 else 0x00#8), x.tag] := by
  have h (b : Bool) : bitAt b 7 = if b then 0x80#8 else 0x00#8 := by cases b <;> rfl
  rw [Slot.bytes, h]

theorem slotBytes_eq (slots : Vector Slot 4) :
    slots.toList.flatMap Slot.bytes = slots[0].bytes ++ slots[1].bytes ++ slots[2].bytes ++ slots[3].bytes := by
  obtain ⟨⟨l⟩, hl⟩ := slots
  match l, hl with
  | [a, b, c, d], _ => rfl

/-- Settles O9: each read gives the bytes of its fields; the counts of the journal are counts by kind. -/
theorem stateReads : Obligations.StateReads := by
  refine ⟨rfl, rfl, rfl, fun s h => ⟨?summary, whenLive_high _ s h, ⟨_, ?linkState, linkFlags_bits _ _ _⟩, ?checkpoints, whenLive_high _ s h⟩⟩
  case summary =>
    refine (whenLive_high _ s h).trans ?_
    refine congrArg (fun d => Host.Outcome.next (answer 0x84#8 .ok 0 d s)) ?_
    unfold journalBytes
    rw [List.cons.injEq, List.cons.injEq, List.cons.injEq, List.cons.injEq, List.cons.injEq, List.cons.injEq, List.cons.injEq]
    refine ⟨countByte_eq s fun _ => rfl, countByte_eq s fun _ => rfl, countByte_eq s fun e => ?_, countByte_eq s fun e => ?_,
      countByte_eq s fun e => ?_, countByte_eq s fun e => ?_, countByte_eq s fun e => ?_, rfl⟩
    · cases e.state <;> rfl
    all_goals cases e.body <;> rfl
  case linkState =>
    refine (whenLive_high _ s h).trans ?_
    rw [readOut, linkStateBytes, peerPartCode_eq] <;> rfl
  case checkpoints =>
    refine (whenLive_high _ s h).trans ?_
    rw [readOut, slotBytes_eq, Slot.bytes_eq, Slot.bytes_eq, Slot.bytes_eq, Slot.bytes_eq]
    rfl

/-! ## Windows (R123, R170) -/

/-- A 16-bit number is its two bytes. -/
theorem bytesOf16_append (x : BitVec 16) : x.extractLsb' 8 8 ++ x.extractLsb' 0 8 = x := by
  ext i hi
  simp only [BitVec.getElem_append, BitVec.getElem_extractLsb']
  split
  · simp [BitVec.getLsbD_eq_getElem hi]
  · rw [show 8 + (i - 8) = i by omega, BitVec.getLsbD_eq_getElem hi]

/-- The walk bytes of READ TRACK MAP. -/
theorem trackMapBytes_inside {s : State} {w : WindowId} {p : Walk} (hp : s.resync.walk = some p) (hw : p.window = w) :
    trackMapBytes s w =
      [(syncState s w).code] ++ bytesOf64 s.maps[w] ++
        [0x01#8, BitVec.ofNat 8 p.track, (BitVec.ofNat 16 p.offset).extractLsb' 8 8, (BitVec.ofNat 16 p.offset).extractLsb' 0 8,
         match s.resync with | .reading _ n => BitVec.ofNat 8 n | .idle | .waiting _ _ => 0#8] := by
  have hinside : walkInside s w = true := by simp [walkInside, hp, hw]
  unfold trackMapBytes
  simp only [hinside, if_true, hp]
  cases s.resync <;> rfl

theorem trackMapBytes_outside {s : State} {w : WindowId} (h : ∀ p, s.resync.walk = some p → p.window ≠ w) :
    trackMapBytes s w = [(syncState s w).code] ++ bytesOf64 s.maps[w] ++ [0#8, 0#8, 0#8, 0#8, 0#8] := by
  have hinside : walkInside s w = false := (walkInside_eq_false_iff s w).2 h
  unfold trackMapBytes
  simp only [hinside, Bool.false_eq_true, if_false]
  cases s.resync <;> rfl

theorem exec_readWindow_of (w : WindowId) {s : State} (h : s.resetLow = false) :
    exec (.readWindow (BitVec.ofNat 8 w.val)) s = .next (readOut 0x60#8 (windowBytes s w) s) := by
  show execReadWindow _ s = _
  unfold execReadWindow
  rw [whenLive_high _ s h, windowOf_ofNat]

theorem exec_readTrackMap_of (w : WindowId) {s : State} (h : s.resetLow = false) :
    exec (.readTrackMap (BitVec.ofNat 8 w.val)) s = .next (readOut 0x62#8 (trackMapBytes s w) s) := by
  show execReadTrackMap _ s = _
  unfold execReadTrackMap
  rw [whenLive_high _ s h, windowOf_ofNat]

/-- Settles O10: the fields of a window, its map, and the walk where it is inside. -/
theorem windowReads : Obligations.WindowReads := by
  refine ⟨rfl, rfl, rfl, fun _ => rfl, fun w s h => exec_readWindow_of w h, fun w s h => ?_, fun number s h hn => ?_⟩
  · by_cases hin : ∃ p, s.resync.walk = some p ∧ p.window = w
    · obtain ⟨p, hp, hw⟩ := hin
      refine ⟨_, _, _, _, _, (exec_readTrackMap_of w h).trans (by rw [readOut, trackMapBytes_inside hp hw]), ?_, fun ho => absurd hw (ho p hp)⟩
      intro q hq hqw
      cases hp.symm.trans hq
      exact ⟨rfl, rfl, bytesOf16_append _, rfl⟩
    · have hout : ∀ p, s.resync.walk = some p → p.window ≠ w := fun p hp hw => hin ⟨p, hp, hw⟩
      exact ⟨_, _, _, _, _, (exec_readTrackMap_of w h).trans (by rw [readOut, trackMapBytes_outside hout]),
        fun p hp hw => absurd hw (hout p hp), fun _ => ⟨rfl, rfl, rfl, rfl, rfl⟩⟩
  · have hnone := (windowOf_eq_none_iff number).2 hn
    constructor
    · show execReadWindow _ s = _
      unfold execReadWindow
      rw [whenLive_high _ s h, hnone]
      rfl
    · show execReadTrackMap _ s = _
      unfold execReadTrackMap
      rw [whenLive_high _ s h, hnone]
      rfl

/-! ## Statistics (R174, R175) -/

theorem readStatistics_window (w : WindowId) (clear : Byte) (hclear : clear.toNat ≤ 1) (s : State) :
    readStatistics (BitVec.ofNat 8 w.val) clear s =
      readOut 0x88#8 s.windowStats[w].bytes (if clear = 1#8 then withWindowStats w WindowStats.reset s else s) := by
  rw [readStatistics, if_neg (by omega), windowOf_ofNat]

theorem readStatistics_link (clear : Byte) (hclear : clear.toNat ≤ 1) (s : State) :
    readStatistics 0x08#8 clear s =
      readOut 0x88#8 s.linkStats.bytes (if clear = 1#8 then { s with linkStats := LinkStats.reset } else s) := by
  rw [readStatistics, if_neg (by omega)]
  rfl

theorem readStatistics_refused {selector clear : Byte} (hbad : 8 < selector.toNat ∨ 1 < clear.toNat) (s : State) :
    readStatistics selector clear s = refuseRead 0x88#8 28 s := by
  rw [readStatistics]
  split
  · rfl
  next hclear =>
    have hselector : 8 < selector.toNat := hbad.resolve_right hclear
    have hne : selector ≠ 8#8 := fun he => by
      rw [he] at hselector
      exact absurd hselector (by decide)
    rw [(windowOf_eq_none_iff selector).2 (by omega)]
    exact if_neg hne

/-- Settles O11: one group of counters for each selector, cleared with the flag. -/
theorem statisticsRead : Obligations.StatisticsRead := by
  refine ⟨fun _ => rfl, fun w s h => ⟨_, rfl, ?_, ?_⟩, fun s h => ⟨_, rfl, ?_, ?_⟩, fun selector clear s h hbad => ?_⟩ <;>
    refine (whenLive_high _ s h).trans ?_
  · rw [readStatistics_window w _ (by decide)]
    rfl
  · rw [readStatistics_window w _ (by decide)]
    rfl
  · rw [readStatistics_link _ (by decide)]
    rfl
  · rw [readStatistics_link _ (by decide)]
    rfl
  · rw [readStatistics_refused hbad]
    rfl

/-! ## Parameters (R46, R172) -/

theorem LinkParams.inRange_iff (p : LinkParams) :
    p.inRange = true ↔ 1 ≤ p.window.toNat ∧ p.window.toNat ≤ 32 ∧ 1 ≤ p.reply.toNat ∧ 1 ≤ p.retries.toNat ∧ p.retries.toNat ≤ 15 ∧
      1 ≤ p.rejoin.toNat := by
  simp [inRange, and_assoc]

theorem PathParams.inRange_iff (p : PathParams) :
    p.inRange = true ↔ 1 ≤ p.stall.toNat ∧ p.stall.toNat ≤ 1023 ∧ 1 ≤ p.fairness.toNat ∧ p.fairness.toNat ≤ 15 ∧
      p.reserve.toNat ≤ 32 ∧ 1 ≤ p.handoverTime.toNat := by
  simp [inRange, and_assoc]

/-- Settles O13: the ranges are those of `inRange`. -/
theorem parameterWrites : Obligations.ParameterWrites := by
  constructor
  · intro window reply retries quiet rejoin s h
    show execWriteLinkParameters window reply retries quiet rejoin s = _
    unfold execWriteLinkParameters
    rw [whenLive_high _ s h]
    simp only [LinkParams.inRange_iff]
    rfl
  · intro stall fairness reserve time s h
    refine (whenLive_high _ s h).trans (congrArg Host.Outcome.next ?_)
    rw [writePathParameters]
    simp only [PathParams.inRange_iff]
    rfl

/-! ## MARK WINDOW (R122) -/

theorem exec_markWindow_of (w : WindowId) {first last : Byte} {s : State} (h : s.resetLow = false) (hle : first.toNat ≤ last.toNat)
    (hlast : last.toNat ≤ 63) :
    exec (.markWindow (BitVec.ofNat 8 w.val) first last) s = .next
      (if s.role = .handingOver then refuse 0x63#8 .busy s
      else if s.role ≠ .active then refuse 0x63#8 .wrongRole s
      else if s.windows[w].mode = .off then refuse 0x63#8 .badParam s
      else accept 0x63#8 (settle s { s with maps := s.maps.set w (s.maps[w] ||| trackRange first.toNat last.toNat) })) := by
  refine (whenLive_high _ s h).trans (congrArg Host.Outcome.next ?_)
  rw [markWindow, windowOf_ofNat]
  exact if_neg (by omega)

/-- Settles O17: the checks in their order, then the range joins the map. -/
theorem markWindowCommand : Obligations.MarkWindowCommand := by
  constructor
  · intro number first last s h hbad
    refine (whenLive_high _ s h).trans (congrArg Host.Outcome.next ?_)
    rw [markWindow]
    split
    next w hw =>
      have hnumber : ¬7 < number.toNat := fun h7 => by
        rw [(windowOf_eq_none_iff number).2 h7] at hw
        nomatch hw
      exact if_pos (hbad.resolve_left hnumber)
    next => rfl
  · intro w first last s h hle hlast
    rw [exec_markWindow_of w h hle hlast]
    refine ⟨fun hr => ?_, fun hr => ?_, fun hr hm => ?_, fun hr hm => ⟨s.maps[w] ||| trackRange first.toNat last.toNat, ?_, fun t => ?_⟩⟩
    · obtain hr | hr | hr | hr := hr <;> simp only [hr] <;> rfl
    · simp only [hr]
      rfl
    · simp only [hr, hm]
      rfl
    · simp only [hr, hm]
      rfl
    · rw [BitVec.getLsbD_or, getLsbD_trackRange hlast]

end Sys2Proof.Machine

/-! # What an event ends with (O18, O19) -/

namespace Sys2Proof.Machine

open Sys2Proof

/-! ## The causes of the windows' moves (R5) -/

/-- A window's move from one sync state to another raises a cause. -/
def Cause.raisedBy (old new : SyncState) (c : Cause) : Prop :=
  (c = .windowInSync ∧ new = .inSync ∧ old ≠ .inSync) ∨
  (c = .windowDiverged ∧ old = .inSync ∧ (new = .diverged ∨ new = .resyncing))

theorem hasCause_noteMove (old new : SyncState) (s : State) (c : Cause) :
    hasCause (noteMove old new s) c = true ↔ hasCause s c = true ∨ c.raisedBy old new := by
  unfold noteMove Cause.raisedBy
  split
  next h =>
    rw [hasCause_setCause]
    simp [h]
  next h =>
    split
    next h' =>
      have hnew : new ≠ .inSync := by obtain ⟨-, h' | h'⟩ := h' <;> rw [h'] <;> nofun
      rw [hasCause_setCause]
      simp [h', hnew]
    next h' =>
      refine (or_iff_left ?_).symm
      rintro (⟨-, hmove⟩ | ⟨-, hmove⟩)
      · exact h hmove
      · exact h' hmove

theorem hasCause_noteMoves (f g : WindowId → SyncState) (ws : List WindowId) (s : State) (c : Cause) :
    hasCause (ws.foldl (fun t w => noteMove (f w) (g w) t) s) c = true ↔
      hasCause s c = true ∨ ∃ w ∈ ws, c.raisedBy (f w) (g w) := by
  induction ws generalizing s with
  | nil => simp
  | cons w ws ih =>
    rw [List.foldl_cons, ih, hasCause_noteMove, or_assoc]
    simp only [List.mem_cons, or_and_right, exists_or, exists_eq_left]

theorem mem_windowIds (w : WindowId) : w ∈ windowIds := by revert w; decide

theorem hasCause_noteSync (before s : State) (c : Cause) :
    hasCause (noteSync before s) c = true ↔
      hasCause s c = true ∨ ∃ w, c.raisedBy (syncState before w) (syncState s w) := by
  rw [noteSync, hasCause_noteMoves]
  simp [mem_windowIds]

theorem noteSync_syncState (before s : State) (w : WindowId) : syncState (noteSync before s) w = syncState s w :=
  (congrArg (syncState · w) (noteSync_frame before s) :)

/-! ## The fields an event's end writes -/

/-- An event's end before the windows' moves are judged. -/
def settled (before s : State) : State := settleRejoin (settleRun before (settleRequest before (startTrack s)))

theorem settle_eq (before s : State) : settle before s = noteSync before (settled before s) := rfl

/-- The fields an event's end may write set back. -/
def unsettle (s t : State) : State :=
  { t with
    maps := s.maps, resync := s.resync, causes := s.causes, upstreamRun := s.upstreamRun
    link.rejoinTimer := s.link.rejoinTimer, freeCount := s.freeCount }

theorem unsettle_noteSync (s before t : State) : unsettle s (noteSync before t) = unsettle s t :=
  (congrArg (unsettle s) (noteSync_frame before t) :)

theorem unsettle_settleRejoin (s t : State) : unsettle s (settleRejoin t) = unsettle s t := rfl

theorem unsettle_settleRun (s before t : State) : unsettle s (settleRun before t) = unsettle s t :=
  (congrArg (unsettle s) (settleRun_frame before t) :)

theorem unsettle_settleRequest (s before t : State) : unsettle s (settleRequest before t) = unsettle s t :=
  (congrArg (unsettle s) (settleRequest_frame before t) :)

theorem unsettle_startTrack (s t : State) : unsettle s (startTrack t) = unsettle s t :=
  (congrArg (unsettle s) (startTrack_frame t) :)

theorem unsettle_settle (before s : State) : unsettle s (settle before s) = s := by
  rw [settle, unsettle_noteSync, unsettle_settleRejoin, unsettle_settleRun, unsettle_settleRequest, unsettle_startTrack]
  rfl

/-! ## What each part of the end leaves, field by field -/

@[simp] theorem noteSync_resync (before s : State) : (noteSync before s).resync = s.resync :=
  (congrArg State.resync (noteSync_frame before s) :)

@[simp] theorem noteSync_maps (before s : State) : (noteSync before s).maps = s.maps :=
  (congrArg State.maps (noteSync_frame before s) :)

@[simp] theorem noteSync_upstreamRun (before s : State) : (noteSync before s).upstreamRun = s.upstreamRun :=
  (congrArg State.upstreamRun (noteSync_frame before s) :)

@[simp] theorem noteSync_internalRequest (before s : State) : internalRequest (noteSync before s) = internalRequest s :=
  (congrArg internalRequest (noteSync_frame before s) :)

@[simp] theorem settleRejoin_resync (s : State) : (settleRejoin s).resync = s.resync := rfl

@[simp] theorem settleRejoin_maps (s : State) : (settleRejoin s).maps = s.maps := rfl

@[simp] theorem settleRejoin_upstreamRun (s : State) : (settleRejoin s).upstreamRun = s.upstreamRun := rfl

@[simp] theorem settleRejoin_internalRequest (s : State) : internalRequest (settleRejoin s) = internalRequest s := rfl

@[simp] theorem settleRun_resync (before s : State) : (settleRun before s).resync = s.resync :=
  (congrArg State.resync (settleRun_frame before s) :)

@[simp] theorem settleRun_maps (before s : State) : (settleRun before s).maps = s.maps :=
  (congrArg State.maps (settleRun_frame before s) :)

@[simp] theorem settleRun_linkParams (before s : State) : (settleRun before s).linkParams = s.linkParams :=
  (congrArg State.linkParams (settleRun_frame before s) :)

@[simp] theorem settleRun_internalRequest (before s : State) : internalRequest (settleRun before s) = internalRequest s :=
  (congrArg internalRequest (settleRun_frame before s) :)

@[simp] theorem settleRequest_maps (before s : State) : (settleRequest before s).maps = s.maps :=
  (congrArg State.maps (settleRequest_frame before s) :)

@[simp] theorem settleRequest_upstreamRun (before s : State) : (settleRequest before s).upstreamRun = s.upstreamRun :=
  (congrArg State.upstreamRun (settleRequest_frame before s) :)

@[simp] theorem settleRequest_linkParams (before s : State) : (settleRequest before s).linkParams = s.linkParams :=
  (congrArg State.linkParams (settleRequest_frame before s) :)

@[simp] theorem startTrack_linkParams (s : State) : (startTrack s).linkParams = s.linkParams :=
  (congrArg State.linkParams (startTrack_frame s) :)

@[simp] theorem startTrack_upstreamRun (s : State) : (startTrack s).upstreamRun = s.upstreamRun :=
  (congrArg State.upstreamRun (startTrack_frame s) :)

theorem settle_resync (before s : State) : (settle before s).resync = (settleRequest before (startTrack s)).resync := by
  simp [settle]

theorem settle_maps (before s : State) : (settle before s).maps = (startTrack s).maps := by simp [settle]

theorem joinConditions_iff (s : State) :
    joinConditions s = true ↔
      s.role = .active ∧ s.link.enable = true ∧ s.link.state = .idle ∧ s.link.joinSuspended = false := by
  simp [joinConditions, and_assoc]

theorem settle_rejoinTimer (before s : State) :
    (settle before s).link.rejoinTimer =
      if joinConditions s then some (s.link.rejoinTimer.getD s.linkParams.rejoinMs) else none := by
  have hrole : (settleRun before (settleRequest before (startTrack s))).role = s.role := by simp
  have hlink : (settleRun before (settleRequest before (startTrack s))).link = s.link := by simp
  have hparams : (settleRun before (settleRequest before (startTrack s))).linkParams = s.linkParams := by simp
  rw [settle, noteSync_link]
  generalize settleRun before (settleRequest before (startTrack s)) = t at hrole hlink hparams
  have hconditions : joinConditions t = joinConditions s := by rw [joinConditions, hrole, hlink]; rfl
  rw [← hconditions, ← hlink, ← hparams]
  rfl

theorem settled_causes (before s : State) : (settled before s).causes = s.causes := by simp [settled]

/-- The causes an event's end sets are those of the moves since `before`. -/
theorem hasCause_settle (before s : State) (c : Cause) :
    hasCause (settle before s) c = true ↔
      hasCause s c = true ∨ ∃ w, c.raisedBy (syncState before w) (syncState (settle before s) w) := by
  have hs : hasCause (settled before s) c = hasCause s c := by rw [hasCause, settled_causes, hasCause]
  rw [settle_eq, hasCause_noteSync, hs]
  simp only [noteSync_syncState]

theorem settle_internalRequest (before s : State) :
    internalRequest (settle before s) = internalRequest (settleRequest before (startTrack s)) := by simp [settle]

theorem settle_upstreamRun (before s : State) :
    (settle before s).upstreamRun =
      if (internalRequest before).isSome = true ∧ internalRequest (settle before s) ≠ internalRequest before then 0
      else s.upstreamRun := by
  have hrun : (settleRequest before (startTrack s)).upstreamRun = s.upstreamRun := by simp
  rw [settle_internalRequest, settle, noteSync_upstreamRun, settleRejoin_upstreamRun, ← hrun, settleRun]
  split <;> rfl

/-- Settles O18, clause by clause from the fields the end of an event writes. -/
theorem eventEnd : Obligations.EventEnd := by
  intro before s
  refine ⟨unsettle_settle before s, ?timer, fun c hin hdiv => ?other, ?inSync, ?diverged, ?run⟩
  case timer =>
    rw [settle_rejoinTimer]
    simp only [joinConditions_iff]
    cases s.link.rejoinTimer <;> rfl
  case other =>
    rw [Bool.eq_iff_iff, hasCause_settle]
    refine or_iff_left ?_
    rintro ⟨w, ⟨hc, -⟩ | ⟨hc, -⟩⟩
    · exact hin hc
    · exact hdiv hc
  case inSync =>
    rw [hasCause_settle]
    simp [Cause.raisedBy]
  case diverged =>
    rw [hasCause_settle]
    simp [Cause.raisedBy]
  case run =>
    rw [settle_upstreamRun]
    simp only [Option.isSome_iff_ne_none]

/-! ## The resync engine at the end of an event (R113 to R117) -/

theorem lowestTrack_zero : lowestTrack 0#64 = none := by
  simp [lowestTrack]

theorem windowIds_split (w : WindowId) :
    windowIds = windowIds.take w.val ++ w :: windowIds.drop (w.val + 1) ∧ ∀ v ∈ windowIds.take w.val, v < w := by
  revert w
  decide

/-- The lowest marked track of the lowest window with one. -/
theorem firstMarked_eq {maps : Vector TrackMap 8} {w : WindowId} {t : Nat} (ht : maps[w].getLsbD t = true)
    (hbelow : ∀ v : WindowId, v < w → maps[v] = 0#64) (hlow : ∀ u < t, maps[w].getLsbD u = false) :
    firstMarked maps = some (w, t) := by
  obtain ⟨hsplit, hlt⟩ := windowIds_split w
  refine List.findSome?_eq_some_iff.2 ⟨_, w, _, hsplit, ?_, fun v hv => ?_⟩
  · rw [lowestTrack_eq_some.2 ⟨ht, hlow⟩]
    rfl
  · rw [hbelow v (hlt v hv), lowestTrack_zero]
    rfl

theorem firstMarked_none {maps : Vector TrackMap 8} (h : ∀ w : WindowId, maps[w] = 0#64) : firstMarked maps = none := by
  refine List.findSome?_eq_none_iff.2 fun w _ => ?_
  rw [h w, lowestTrack_zero]
  rfl

theorem resyncMayRun_iff (s : State) : resyncMayRun s = true ↔ s.role = .active ∧ s.link.state = .up := by
  simp [resyncMayRun]

/-- An engine that is not IDLE starts no track. -/
theorem startTrack_busy {s : State} (h : s.resync ≠ .idle) : startTrack s = s := if_neg fun hs => h hs.1

theorem startTrack_still {s : State} (h : s.role ≠ .active ∨ s.link.state ≠ .up ∨ ∀ w : WindowId, s.maps[w] = 0#64) :
    startTrack s = s := by
  unfold startTrack
  split
  next hs =>
    obtain ⟨hrole, hup⟩ := (resyncMayRun_iff s).1 hs.2
    rw [firstMarked_none ((h.resolve_left fun h => h hrole).resolve_left fun h => h hup)]
  next => rfl

theorem startTrack_starts {s : State} {w : WindowId} {t : Nat} (hidle : s.resync = .idle) (hrun : resyncMayRun s = true)
    (hfirst : firstMarked s.maps = some (w, t)) :
    startTrack s = { clearTrack w t s with resync := .waiting { window := w, track := t, offset := 0 } false } := by
  rw [startTrack, if_pos ⟨hidle, hrun⟩, hfirst]

/-- The first-read request a WAITING engine without one makes. -/
theorem settleRequest_makes {before s : State} {p : Walk} (hw : s.resync = .waiting p false) (hrun : resyncMayRun s = true) :
    (settleRequest before s).resync =
      .waiting p (decide (s.pathParams.reserve.toNat < 64 - s.journal.length) && !discardedRead s) := by
  rw [settleRequest, hw]
  dsimp only
  rw [if_neg (by rw [hrun]; nofun), if_neg nofun]
  by_cases h : s.pathParams.reserve.toNat < freeEntries s ∧ discardedRead s = false
  · have hfree : s.pathParams.reserve.toNat < 64 - s.journal.length := h.1
    rw [if_pos h, h.2]
    simp [hfree]
  · rw [if_neg h, hw]
    have : (decide (s.pathParams.reserve.toNat < 64 - s.journal.length) && !discardedRead s) = false := by
      rw [Bool.eq_false_iff]
      intro hb
      rw [Bool.and_eq_true, decide_eq_true_iff, Bool.not_eq_true'] at hb
      exact h hb
    rw [this]

theorem settleRequest_withdraws {before s : State} {p : Walk} {requesting : Bool} (hw : s.resync = .waiting p requesting)
    (hrun : resyncMayRun s = false) : (settleRequest before s).resync = .waiting p false := by
  rw [settleRequest, hw]
  dsimp only
  rw [if_pos hrun]

theorem settleRequest_stands {before s : State} {p : Walk} (hw : s.resync = .waiting p true) (hrun : resyncMayRun s = true)
    (hfree : freeEntries before ≤ freeEntries s ∨ s.pathParams.reserve.toNat < freeEntries s) :
    (settleRequest before s).resync = .waiting p true := by
  rw [settleRequest, hw]
  dsimp only
  rw [if_neg (by rw [hrun]; nofun), if_pos rfl, if_neg (by omega), hw]

theorem settleRequest_waits {before s : State} {p : Walk} {requesting : Bool} (hw : s.resync = .waiting p requesting) :
    ∃ still, (settleRequest before s).resync = .waiting p still := by
  rw [settleRequest, hw]
  dsimp only
  split
  · exact ⟨false, rfl⟩
  split
  · split
    · exact ⟨_, rfl⟩
    · exact ⟨requesting, hw⟩
  split
  · exact ⟨true, rfl⟩
  · exact ⟨requesting, hw⟩

/-- Settles O19: a start at the lowest marked track, then the request of a WAITING engine. -/
theorem resyncAtEventEnd : Obligations.ResyncAtEventEnd := by
  intro before s
  simp only [settle_resync, settle_maps]
  refine ⟨?starts, ?still, ?waits, ?reads⟩
  case starts =>
    intro w t hidle hrole hup ht hbelow hlow
    have hrun := (resyncMayRun_iff s).2 ⟨hrole, hup⟩
    simp only [startTrack_starts hidle hrun (firstMarked_eq ht hbelow hlow)]
    refine ⟨settleRequest_makes rfl hrun, fun v hv => ?_, fun u => ?_⟩
    · have : w.val ≠ v.val := fun e => hv (Fin.ext e.symm)
      simp [clearTrack, this]
    · have hlt : t < 64 := BitVec.lt_of_getLsbD ht
      simp only [clearTrack, Fin.getElem_fin, Vector.getElem_set_self, BitVec.getLsbD_and, BitVec.getLsbD_not, BitVec.getLsbD_twoPow]
      by_cases hu : u < 64
      · obtain rfl | hut := eq_or_ne t u
        · simp
        · simp [hu, hut, hut.symm]
      · rw [BitVec.getLsbD_of_ge _ _ (Nat.le_of_not_lt hu), Bool.false_and, Bool.false_and]
  case still =>
    intro hidle hstill
    rw [startTrack_still hstill]
    refine ⟨?_, rfl⟩
    rw [settleRequest, hidle]
    exact hidle
  case waits =>
    intro p requesting hw
    rw [startTrack_busy (by rw [hw]; nofun)]
    refine ⟨rfl, fun hno => ?_, ?_, ?_, settleRequest_waits hw⟩
    · refine settleRequest_withdraws hw (Bool.eq_false_iff.2 fun hrun => ?_)
      obtain ⟨hrole, hup⟩ := (resyncMayRun_iff s).1 hrun
      exact hno.elim (fun h => h hrole) fun h => h hup
    · rintro hrole hup rfl
      exact settleRequest_makes hw ((resyncMayRun_iff s).2 ⟨hrole, hup⟩)
    · rintro hrole hup rfl hfree
      exact settleRequest_stands hw ((resyncMayRun_iff s).2 ⟨hrole, hup⟩) hfree
  case reads =>
    intro walk n hr
    rw [startTrack_busy (by rw [hr]; nofun)]
    refine ⟨?_, rfl⟩
    rw [settleRequest, hr]
    exact hr

end Sys2Proof.Machine

/-! # WRITE WINDOW (O16) -/

namespace Sys2Proof.Machine

open Sys2Proof

theorem modeOf_some {b : Byte} {m : WindowMode} (h : modeOf b = some m) : b.toNat ≤ 1 := by
  unfold modeOf at h
  split at h
  next hb =>
    rw [hb]
    decide
  split at h
  next hb =>
    rw [hb]
    decide
  next => nomatch h

theorem policyOf_some {b : Byte} {p : Policy} (h : policyOf b = some p) : b.toNat ≤ 2 := by
  unfold policyOf at h
  split at h
  next hb =>
    rw [hb]
    decide
  split at h
  next hb =>
    rw [hb]
    decide
  split at h
  next hb =>
    rw [hb]
    decide
  next => nomatch h

theorem sizeExpOf_some {b : Byte} {k : Fin 13} (h : sizeExpOf b = some k) : k.val = b.toNat := by
  unfold sizeExpOf at h
  split at h
  · cases h
    rfl
  · nomatch h

/-- The parameters of a window pass the checks of R2. -/
theorem windowFields_some {mode sizeExp policy : Byte} {base : ByteAddr} {x : Window}
    (h : windowFields mode base sizeExp policy = some x) :
    sizeExp.toNat ≤ 12 ∧ mode.toNat ≤ 1 ∧ policy.toNat ≤ 2 ∧ base.toNat % (4096 * 2 ^ sizeExp.toNat) = 0 := by
  unfold windowFields at h
  split at h
  next m k p hm hk hp =>
    split at h
    next haligned =>
      have hsize : 2 ^ (12 + k.val) = 4096 * 2 ^ k.val := by
        rw [pow_add]
        norm_num
      rw [hsize, sizeExpOf_some hk] at haligned
      exact ⟨sizeExpOf_some hk ▸ Nat.le_of_lt_succ k.isLt, modeOf_some hm, policyOf_some hp, haligned⟩
    next => nomatch h
  next => nomatch h

/-- A window's own codes describe it. -/
theorem windowFields_codes {x : Window} (h : x.base.toNat % 2 ^ (12 + x.sizeExp.val) = 0) :
    windowFields x.mode.code x.base (BitVec.ofNat 8 x.sizeExp.val) x.policy.code = some x := by
  rw [windowFields, modeOf_code, sizeExpOf_ofNat, policyOf_code]
  exact if_pos h

theorem exec_writeWindow_of (w : WindowId) {x : Window} {s : State} (h : s.resetLow = false)
    (haligned : x.base.toNat % 2 ^ (12 + x.sizeExp.val) = 0) :
    exec (.writeWindow (BitVec.ofNat 8 w.val) x.mode.code x.base (BitVec.ofNat 8 x.sizeExp.val) x.policy.code) s =
      .next (if s.windows[w].mode = .mirror ∧ (x.base ≠ s.windows[w].base ∨ x.sizeExp ≠ s.windows[w].sizeExp) then
          refuse 0x61#8 .busy s
        else if x.mode ≠ s.windows[w].mode ∧ s.role = .handingOver then refuse 0x61#8 .busy s
        else accept 0x61#8 (settle s (changeWindow w x s))) := by
  refine (whenLive_high _ s h).trans (congrArg Host.Outcome.next ?_)
  rw [writeWindow, windowOf_ofNat, windowFields_codes haligned]

theorem Window.covers_iff (x : Window) (addr : Nat) :
    x.covers addr = true ↔ addr - addr % 2 ^ (12 + x.sizeExp.val) = x.base.toNat := by
  have hclear : addr / x.size * x.size = addr - addr % x.size := by
    have := Nat.div_add_mod' addr x.size
    omega
  rw [covers, hclear, beq_iff_eq]
  rfl

theorem heldIn_iff (s : State) (x : Window) :
    heldIn s x = true ↔ ∃ a v r, s.upstream = .held a v r ∧
      4 * a.addr.toNat - 4 * a.addr.toNat % 2 ^ (12 + x.sizeExp.val) = x.base.toNat := by
  cases hu : s.upstream with
  | held a v r => simp [heldIn, hu, Window.covers_iff, wordByteAddr]
  | none => simp [heldIn, hu]
  | requesting a forced => simp [heldIn, hu]
  | inProgress a => simp [heldIn, hu]

theorem windowTracked_same {w : WindowId} {new : Window} {s : State} (h : s.windows[w].mode = new.mode) :
    windowTracked w new s = { s with windows := s.windows.set w new } := by
  unfold windowTracked
  split
  next ho hn => exact absurd (ho.symm.trans (h.trans hn)) nofun
  next ho hn => exact absurd (ho.symm.trans (h.trans hn)) nofun
  next => rfl
  next => rfl

theorem windowTracked_on {w : WindowId} {new : Window} {s : State} (ho : s.windows[w].mode = .off) (hn : new.mode = .mirror) :
    windowTracked w new s =
      { s with
        windows := s.windows.set w new
        maps := if s.role = .active then s.maps.set w (BitVec.allOnes 64) else s.maps } := by
  rw [windowTracked, ho, hn]

theorem windowTracked_off {w : WindowId} {new : Window} {s : State} (ho : s.windows[w].mode = .mirror) (hn : new.mode = .off) :
    windowTracked w new s =
      { s with windows := s.windows.set w new, maps := s.maps.set w 0#64, resync := s.resync.leave w } := by
  rw [windowTracked, ho, hn]

/-- Settles O16: the checks of R2, then the fields, the tracks of the window and the held write. -/
theorem writeWindowCommand : Obligations.WriteWindow := by
  refine ⟨?bad, ?busy, ?accepted⟩
  case bad =>
    intro number mode base k policy s h hbad
    refine (whenLive_high _ s h).trans (congrArg Host.Outcome.next ?_)
    rw [writeWindow]
    split
    next w x hw hx =>
      obtain ⟨hk, hmode, hpolicy, haligned⟩ := windowFields_some hx
      have hnumber : number.toNat ≤ 7 := by
        rw [(windowOf_eq_some_iff number w).1 hw]
        exact Nat.le_of_lt_succ w.isLt
      exact absurd ⟨hnumber, hk, hmode, hpolicy, haligned⟩ hbad
    next => rfl
  case busy =>
    intro w x s h haligned hbusy
    rw [exec_writeWindow_of w h haligned]
    split
    · rfl
    next hrange => rw [if_pos (hbusy.resolve_left hrange)]; rfl
  case accepted =>
    intro w x s h haligned hrange hrole
    refine ⟨windowTracked w x s, changeWindow w x s, ?_, fun hchange hheld => ?_, fun hkept => ?_, windowTracked_same,
      windowTracked_on, ?_⟩
    · rw [exec_writeWindow_of w h haligned, if_neg hrange, if_neg hrole]
      rfl
    · rw [changeWindow_eq, if_pos ⟨hchange, (heldIn_iff s x).2 hheld⟩]
    · rw [changeWindow_eq, if_neg]
      rintro ⟨hchange, hheld⟩
      obtain ⟨hmode, hpolicy⟩ | hno := hkept
      · exact hchange.elim (fun h => h hmode) fun h => h hpolicy
      · obtain ⟨a, v, r, hu, hin⟩ := (heldIn_iff s x).1 hheld
        exact hno a v r hu hin
    · intro ho hn
      rw [windowTracked_off ho hn]
      congr 1

end Sys2Proof.Machine

/-! # The word bus and the capture unit (O20 to O27) -/

namespace Sys2Proof.Machine

open Sys2Proof

/-! ## The commands of the bus -/

theorem exec_upstreamPresentation (a : Access) {s : State} (h : s.resetLow = false) :
    exec (.upstreamPresentation a) s = .next (present a s) := whenLive_high (present a) s h

theorem exec_arbiterGrant {s : State} (h : s.resetLow = false) : exec .arbiterGrant s = .next (settle s (grant s)) :=
  whenLiveSettled_high grant s h

theorem exec_downstreamCompletion {s : State} (h : s.resetLow = false) :
    exec .downstreamCompletion s = .next (settle s (completeAccess s)) := whenLiveSettled_high completeAccess s h

theorem exec_stallLimitExpiry {s : State} (h : s.resetLow = false) :
    exec .stallLimitExpiry s = .next (settle s (expireStall s)) := whenLiveSettled_high expireStall s h

/-! ## Presentation (R151) -/

theorem emptyWrite_iff (a : Access) : emptyWrite a = true ↔ a.kind = .write ∧ a.lanes = 0#4 := by simp [emptyWrite]

/-- Settles O20: the state of the upstream access, then the empty write. -/
theorem presentation : Obligations.Presentation := by
  intro a s h
  rw [exec_upstreamPresentation a h, present]
  refine ⟨fun hu hbyte => ?_, fun hu hk hl => ?_, fun hu => ?_⟩
  · rw [hu]
    refine congrArg Host.Outcome.next (if_neg fun he => ?_)
    obtain ⟨hk, hl⟩ := (emptyWrite_iff a).1 he
    rw [hk] at hbyte
    exact hbyte.elim nofun fun hb => hb hl
  · rw [hu]
    exact congrArg Host.Outcome.next (if_pos ((emptyWrite_iff a).2 ⟨hk, hl⟩))
  · split
    next hn => exact absurd hn hu
    all_goals rfl

/-! ## Classification (R6, R7, R13) -/

theorem mergePossible_iff (s : State) (w : WindowId) (line : LineNo) :
    mergePossible s w line = true ↔
      ∃ older bytes, s.journal = older ++ [{ body := .write w line bytes, state := .pending }] := by
  have hlast (bytes : List (Nat × Byte)) :
      s.journal.getLast? = some { body := .write w line bytes, state := .pending } ↔
        ∃ older, s.journal = older ++ [{ body := .write w line bytes, state := .pending }] := List.getLast?_eq_some_iff
  rw [exists_comm]
  simp only [← hlast, mergePossible]
  split
  next v l bytes hl => simp [hl, and_comm]
  next hno =>
    refine iff_of_false nofun ?_
    rintro ⟨bytes, hl⟩
    exact hno w line bytes hl

theorem classify_outside {s : State} {a : Access} {forced : Bool} (ho : ownerOfWord s a.addr = none) :
    classify s a forced = .pass := by
  rw [classify, ho]

/-- An unforced write of an ACTIVE part in a MIRROR window (R7). -/
theorem classify_active {s : State} {a : Access} {w : WindowId} (ho : ownerOfWord s a.addr = some w) (hr : s.role = .active)
    (forced : Bool) : classify s a forced = if forced then .diverge w else classifyActive s a w := by
  rw [classify, ho, hr]

/-- Settles O21, by role, then link, then what the journal holds. -/
theorem classificationTable : Obligations.ClassificationTable := by
  intro a forced s
  refine ⟨classify_outside, fun w ho => ⟨fun hr => ?unassigned, fun hr => ?handing, fun hr => ?refused, fun hr hf => ?forced,
    fun hr hf => ⟨fun hl => ?associated, fun hup hrec => ?apart⟩⟩⟩
  case unassigned => rw [classify, ho, hr]
  case handing => rw [classify, ho, hr]
  case refused => obtain hr | hr | hr := hr <;> rw [classify, ho, hr]
  case forced => rw [classify_active ho hr, hf, if_pos rfl]
  case associated =>
    rw [← LinkState.associated_iff] at hl
    rw [← lineOfWord_eq, ← mergePossible_iff, classify_active ho hr, hf, if_neg nofun, classifyActive, if_pos hl]
    refine ⟨fun hm => if_pos hm, fun hm => ?_⟩
    rw [if_neg hm]
    refine ⟨fun hroom => if_pos (Nat.sub_pos_of_lt hroom), fun hfull => ?_⟩
    have hnone : ¬0 < freeEntries s := by
      rw [freeEntries, Nat.sub_eq_zero_of_le hfull]
      exact Nat.lt_irrefl 0
    rw [if_neg hnone]
    refine ⟨fun hp => ?_, fun hp => ?_, fun hp => ?_⟩ <;> rw [hp]
  case apart =>
    have hl : ¬s.link.state.associated = true := fun hl =>
      ((LinkState.associated_iff _).1 hl).elim (fun h => hup h) fun h => hrec h
    rw [classify_active ho hr, hf, if_neg nofun, classifyActive, if_neg hl]
    refine ⟨fun hp => ?_, fun hp => ?_⟩
    · split
      · rfl
      · rfl
      next hs => exact absurd hs hp
    · rw [hp]

/-! ## Grants (R153, R156) -/

theorem startUpstream_read {a : Access} (hk : a.kind = .read) (s : State) :
    startUpstream a s =
      { s with
        upstream := .inProgress a, port := some { owner := .upstream, access := { a with lanes := 0xF#4 } } } := by
  rw [startUpstream, if_pos hk]
  rfl

theorem startUpstream_write {a : Access} (hk : a.kind = .write) (s : State) :
    startUpstream a s = { s with upstream := .inProgress a, port := some { owner := .upstream, access := a } } := by
  rw [startUpstream, if_neg (by rw [hk]; nofun)]

/-- A grant to the upstream access. -/
theorem grant_upstream {s : State} {a : Access} {forced : Bool} {run : Nat} (hp : s.port = none)
    (hu : s.upstream = .requesting a forced)
    (hrun : (internalRequest s = none ∧ run = s.upstreamRun) ∨
      (internalRequest s ≠ none ∧ s.upstreamRun < s.pathParams.fairness.toNat ∧ run = s.upstreamRun + 1)) :
    grant s = grantUpstream a forced { s with upstreamRun := run } := by
  have hfree : ¬s.port.isSome = true := by rw [hp]; nofun
  have hrequest : upstreamRequest s = some (a, forced) := by rw [upstreamRequest, hu]
  rw [grant, if_neg hfree, hrequest]
  obtain ⟨hnone, rfl⟩ | ⟨hsome, hlt, rfl⟩ := hrun
  · rw [hnone]
  · obtain ⟨r, hr⟩ := Option.ne_none_iff_exists'.1 hsome
    rw [hr]
    exact if_pos hlt

/-- A grant to the internal requester. -/
theorem grant_internal {s : State} {r : InternalRequest} (hp : s.port = none) (hr : internalRequest s = some r)
    (hrun : (∀ a forced, s.upstream ≠ .requesting a forced) ∨ s.pathParams.fairness.toNat ≤ s.upstreamRun) :
    grant s = { grantInternal r s with upstreamRun := 0 } := by
  have hfree : ¬s.port.isSome = true := by rw [hp]; nofun
  rw [grant, if_neg hfree, hr]
  cases hreq : upstreamRequest s with
  | none => rfl
  | some x =>
    obtain ⟨a, forced⟩ := x
    exact if_neg (Nat.not_lt.2 (hrun.resolve_left fun hno => hno a forced (upstreamRequest_some hreq)))

/-- Settles O22: the fairness count picks the upstream access, and each outcome is one procedure of the capture unit. -/
theorem grantOfUpstreamAccess : Obligations.GrantOfUpstreamAccess := by
  intro a forced run s h hp hu hrun
  rw [exec_arbiterGrant h, grant_upstream hp hu hrun]
  refine ⟨fun hk => ?read, fun hk => ?write⟩
  case read =>
    simp only [grantUpstream, hk, startUpstream_read hk]
  case write =>
    have houtcome : classify { s with upstreamRun := run } a forced = classify s a forced := rfl
    refine ⟨fun hc => ?_, fun w hc => ?_, fun w older line bytes hc hj => ?_, fun w hc => ?_, fun w reason hc => ?_, fun w hc => ?_⟩ <;>
      simp only [grantUpstream, hk, houtcome, hc]
    · rw [startUpstream_write hk]
    · rw [startUpstream_write hk, captureWrite, lineOfWord_eq]
      rfl
    · rw [startUpstream_write hk, mergeWrite, hj, mergeYoungest_append]
      rfl
    · rw [startUpstream_write hk]
      rfl
    · rfl
    · rfl

theorem exec_grant_internal {s : State} {r : InternalRequest} (h : s.resetLow = false) (hp : s.port = none)
    (hr : internalRequest s = some r)
    (hrun : (∀ a forced, s.upstream ≠ .requesting a forced) ∨ s.pathParams.fairness.toNat ≤ s.upstreamRun) :
    exec .arbiterGrant s = .next (settle s { grantInternal r s with upstreamRun := 0 }) := by
  rw [exec_arbiterGrant h, grant_internal hp hr hrun]

/-- Settles O23: the three requests of the internal requester. -/
theorem grantOfInternalRequest : Obligations.GrantOfInternalRequest := by
  refine ⟨fun _ _ => rfl, fun s h hp hrun => ⟨fun p hr => ⟨fun hroom => ?_, fun hfull => ?_⟩, fun line n hr => ?_, ?_⟩⟩
  · have hroom : s.pathParams.reserve.toNat < freeEntries s := hroom
    rw [exec_grant_internal h hp hr hrun, grantInternal, if_pos hroom]
    rfl
  · have hfull : ¬s.pathParams.reserve.toNat < freeEntries s := Nat.not_lt.2 hfull
    rw [exec_grant_internal h hp hr hrun, grantInternal, if_neg hfull]
  · rw [exec_grant_internal h hp hr hrun]
    rfl
  · intro q o r rest line hr he hq hline
    have haccess : applyAccess s =
        some { kind := .write, addr := wordOfLine line o, lanes := recordLanes r.record o, data := recordWord r.record o } := by
      rw [applyAccess, he, hq]
      dsimp only
      rw [hline]
      rfl
    rw [exec_grant_internal h hp hr hrun, grantInternal]
    simp only [haccess]
    rfl

/-! ## The bytes of entries (R8, R29, R96) -/

theorem positionsRise_cons (low : Nat) (c : Nat × Byte) (rest : List (Nat × Byte)) :
    positionsRise low (c :: rest) = true ↔ (low ≤ c.1 ∧ c.1 < 64) ∧ positionsRise (c.1 + 1) rest = true := by
  simp [positionsRise]

theorem positionsRise_mono {low low' : Nat} (hl : low' ≤ low) {l : List (Nat × Byte)} (h : positionsRise low l = true) :
    positionsRise low' l = true := by
  cases l with
  | nil => rfl
  | cons c rest =>
    rw [positionsRise_cons] at h ⊢
    exact ⟨⟨hl.trans h.1.1, h.1.2⟩, h.2⟩

theorem length_le_of_positionsRise {low : Nat} {l : List (Nat × Byte)} (h : positionsRise low l = true) (hlow : low ≤ 64) :
    l.length ≤ 64 - low := by
  induction l generalizing low with
  | nil => exact Nat.zero_le _
  | cons c rest ih =>
    obtain ⟨⟨hle, hlt⟩, hrest⟩ := (positionsRise_cons low c rest).1 h
    have := ih hrest (by omega)
    rw [List.length_cons]
    omega

/-- A position below the first is not there. -/
theorem get_of_positionsRise {low k : Nat} {l : List (Nat × Byte)} (h : positionsRise low l = true) (hk : k < low) :
    Cells.get k l = none := by
  induction l generalizing low with
  | nil => rfl
  | cons c rest ih =>
    obtain ⟨⟨hle, -⟩, hrest⟩ := (positionsRise_cons low c rest).1 h
    rw [Cells.get, if_neg (by omega)]
    exact ih hrest (by omega)

theorem positionsRise_put {low k : Nat} (v : Byte) {l : List (Nat × Byte)} (h : positionsRise low l = true) (hlow : low ≤ k)
    (hk : k < 64) : positionsRise low (Cells.put k v l) = true := by
  induction l generalizing low with
  | nil => exact (positionsRise_cons _ _ _).2 ⟨⟨hlow, hk⟩, rfl⟩
  | cons c rest ih =>
    obtain ⟨⟨hle, hlt⟩, hrest⟩ := (positionsRise_cons low c rest).1 h
    rw [Cells.put]
    split
    next hkc => exact (positionsRise_cons _ _ _).2 ⟨⟨hlow, hk⟩, (positionsRise_cons _ _ _).2 ⟨⟨hkc, hlt⟩, hrest⟩⟩
    next hkc =>
      split
      next hkc' => exact (positionsRise_cons _ _ _).2 ⟨⟨hlow, hk⟩, hkc' ▸ hrest⟩
      next hkc' => exact (positionsRise_cons _ _ _).2 ⟨⟨hle, hlt⟩, ih hrest (by omega)⟩

theorem positionsRise_mergeBytes {low : Nat} {old new : List (Nat × Byte)} (hold : positionsRise 0 old = true)
    (hnew : positionsRise low new = true) : positionsRise 0 (mergeBytes old new) = true := by
  induction new generalizing low old with
  | nil => exact hold
  | cons c rest ih =>
    obtain ⟨⟨-, hlt⟩, hrest⟩ := (positionsRise_cons low c rest).1 hnew
    exact ih (positionsRise_put c.2 hold (Nat.zero_le _) hlt) hrest

theorem get_mergeBytes {low : Nat} {old new : List (Nat × Byte)} (hnew : positionsRise low new = true) (k : Nat) :
    Cells.get k (mergeBytes old new) = (Cells.get k new).or (Cells.get k old) := by
  induction new generalizing low old with
  | nil => rfl
  | cons c rest ih =>
    obtain ⟨-, hrest⟩ := (positionsRise_cons low c rest).1 hnew
    refine (ih (old := Cells.put c.1 c.2 old) hrest).trans ?_
    rw [Cells.get_put, Cells.get]
    by_cases hk : k = c.1
    · rw [if_pos hk, if_pos hk.symm, get_of_positionsRise hrest (by omega)]
      rfl
    · rw [if_neg hk, if_neg (Ne.symm hk)]

/-- A list of lanes in rising order, as the positions of a word. -/
theorem positionsRise_lanes {o : Nat} (ho : o < 16) (data : WordData) {l : List (Fin 4)} (hl : l.Pairwise (· < ·)) {low : Nat}
    (hlow : ∀ i ∈ l, low ≤ 4 * o + i.val) : positionsRise low (l.map fun i => (4 * o + i.val, data[i])) = true := by
  induction l generalizing low with
  | nil => rfl
  | cons i rest ih =>
    obtain ⟨hi, hrest⟩ := List.pairwise_cons.1 hl
    refine (positionsRise_cons _ _ _).2 ⟨⟨hlow i (List.mem_cons_self ..), ?_⟩, ih hrest fun j hj => ?_⟩
    · show 4 * o + i.val < 64
      have := i.isLt
      omega
    · show 4 * o + i.val + 1 ≤ 4 * o + j.val
      have : i.val < j.val := hi j hj
      omega

theorem get_lanes (o : Nat) (data : WordData) (l : List (Fin 4)) (j : Fin 4) :
    Cells.get (4 * o + j.val) (l.map fun i => (4 * o + i.val, data[i])) = if j ∈ l then some data[j] else none := by
  induction l with
  | nil => rfl
  | cons i rest ih =>
    rw [List.map_cons, Cells.get, ih]
    by_cases hij : i = j
    · simp [hij]
    · have : i.val ≠ j.val := fun h => hij (Fin.ext h)
      simp [Ne.symm hij, this]

theorem get_lanes_elsewhere {o k : Nat} (hk : k / 4 ≠ o) (data : WordData) (l : List (Fin 4)) :
    Cells.get k (l.map fun i => (4 * o + i.val, data[i])) = none := by
  induction l with
  | nil => rfl
  | cons i rest ih =>
    rw [List.map_cons, Cells.get, if_neg (by have := i.isLt; dsimp only; omega), ih]

/-- The lanes of a mask, in rising order. -/
def laneList (lanes : Lanes) : List (Fin 4) := ([0, 1, 2, 3] : List (Fin 4)).filter fun i => lanes.getLsbD i.val

theorem mem_laneList (lanes : Lanes) (i : Fin 4) : i ∈ laneList lanes ↔ lanes.getLsbD i.val = true := by
  have hmem : i ∈ ([0, 1, 2, 3] : List (Fin 4)) := by revert i; decide
  simp [laneList, hmem]

theorem accessBytes_eq (a : Access) :
    accessBytes a = (laneList a.lanes).map fun i => (4 * (a.addr.toNat % 16) + i.val, a.data[i]) := rfl

theorem pairwise_laneList (lanes : Lanes) : (laneList lanes).Pairwise (· < ·) :=
  List.Pairwise.filter _ (by decide)

/-- Settles O24: an access carries its lanes in order, a merge puts each byte in its place, and a record's words are its bytes. -/
theorem bytesOfEntries : Obligations.BytesOfEntries := by
  refine ⟨fun a => ⟨?rise, fun i => ?lane, fun k hk => ?other⟩, fun old new hold hnew => ?merge, fun line bytes o i => ?write,
    fun line data o i hlength ho => ?fill⟩
  case rise =>
    rw [accessBytes_eq]
    exact positionsRise_lanes (Nat.mod_lt _ (by decide)) a.data (pairwise_laneList _) fun _ _ => Nat.zero_le _
  case lane =>
    rw [accessBytes_eq, get_lanes]
    simp only [mem_laneList]
  case other => rw [accessBytes_eq, get_lanes_elsewhere hk]
  case merge =>
    have hrise := positionsRise_mergeBytes hold hnew
    exact ⟨hrise, length_le_of_positionsRise hrise (by decide), get_mergeBytes hnew⟩
  case write =>
    refine ⟨?_, fun b hb => ?_⟩
    · simp [recordLanes]
    · simp [recordWord, hb]
  case fill =>
    have hlt : 4 * o + i.val < data.length := by
      have := i.isLt
      omega
    refine ⟨?_, ?_⟩
    · exact (BitVec.getLsbD_allOnes).trans (decide_eq_true i.isLt)
    · simp [recordWord, hlt]

/-! ## Completions (R32, R96, R150, R153) -/

/-- Memory after a write, lane by lane (R150). -/
theorem read_memoryAfter {s : State} (hmem : memoryCanonical s = true) {a : Access} (hk : a.kind = .write) :
    (∀ i : Fin 4, Memory.read (memoryAfter s a) (4 * a.addr.toNat + i.val) =
      if a.lanes.getLsbD i.val then a.data[i] else Memory.read s.mem (4 * a.addr.toNat + i.val)) ∧
    ∀ k : Nat, k / 4 ≠ a.addr.toNat → Memory.read (memoryAfter s a) k = Memory.read s.mem k := by
  rw [memoryAfter, hk]
  exact ⟨fun i => Memory.read_lane_writeWord hmem _ _ _ i, fun k hk => Memory.read_other_writeWord hmem _ _ _ hk⟩

theorem getElem_readWord (m : List Host.Cell) (a : WordAddr) (i : Fin 4) :
    (Memory.readWord m a)[i] = Memory.read m (4 * a.toNat + i.val) := by
  simp [Memory.readWord, wordByteAddr]

/-- Settles O25: memory carries the access out, and its owner is told where it is still there. -/
theorem completedAccess : Obligations.CompletedAccess := by
  intro x s h hp
  rw [exec_downstreamCompletion h]
  refine ⟨memoryAfter s x.access, fun hk => ?_, fun hk hmem => read_memoryAfter hmem hk, fun a ho hu => ⟨fun hk => ?_, fun hk hx => ?_⟩,
    fun ho => ?_⟩
  · rw [memoryAfter, hk]
  · rw [completeAccess_upstream hp ho, completeUpstream]
    simp only [hu, hk]
  · refine ⟨Memory.readWord s.mem a.addr, ?_, getElem_readWord s.mem a.addr⟩
    have hmem : memoryAfter s x.access = s.mem := by rw [memoryAfter, hx]
    rw [completeAccess_upstream hp ho, completeUpstream, hmem]
    simp only [hu, hk]
  · rw [completeAccess_dropped hp ho]

theorem nextWord_eq_some_iff (r : Record) (start o : Nat) :
    nextWord r start = some o ↔
      start ≤ o ∧ o < 16 ∧ recordLanes r o ≠ 0#4 ∧ ∀ k, start ≤ k → k < o → recordLanes r k = 0#4 := by
  rw [nextWord, List.find?_range_eq_some]
  simp only [Bool.and_eq_true, decide_eq_true_iff, bne_iff_ne, List.mem_range, Bool.not_eq_true', Bool.and_eq_false_iff,
    decide_eq_false_iff_not, bne_eq_false_iff_eq]
  constructor
  · rintro ⟨⟨hs, hl⟩, ho, hno⟩
    exact ⟨hs, ho, hl, fun k hk hko => (hno k hko).resolve_left fun h => h hk⟩
  · rintro ⟨hs, ho, hl, hno⟩
    exact ⟨⟨hs, hl⟩, ho, fun k hko => or_iff_not_imp_left.2 fun h => hno k (not_not.1 h) hko⟩

theorem fillingLine_eq {s : State} {older younger : List Entry} {w : WindowId} {line : LineNo} {data : List Byte}
    (hj : s.journal = older ++ [{ body := .fill w line data, state := .filling }] ++ younger)
    (hn : ∀ e ∈ older ++ younger, e.state ≠ .filling) : fillingLine s = some (w, line) := by
  have hskip : fillingLine { s with journal := older } = none := List.findSome?_eq_none_iff.2 fun e he => by
    have := hn e (List.mem_append_left _ he)
    obtain ⟨b, x⟩ := e
    cases x with
    | filling => exact absurd rfl this
    | pending => cases b <;> rfl
    | sent q n => cases b <;> rfl
  rw [fillingLine, hj, List.append_assoc, List.findSome?_append]
  exact congrArg (fun o : Option (WindowId × LineNo) => o.or (some (w, line))) hskip

/-- The FILLING entry takes a word of its line. -/
theorem takeWord_eq (word : WordData) (last : Bool) {s : State} {older younger : List Entry} {w : WindowId} {line : LineNo}
    {data : List Byte} (hj : s.journal = older ++ [{ body := .fill w line data, state := .filling }] ++ younger)
    (hn : ∀ e ∈ older ++ younger, e.state ≠ .filling) :
    takeWord word last s = { s with
      journal := older ++ [{ body := .fill w line (data ++ word.toList), state := if last then .pending else .filling }] ++ younger } :=
  congrArg (fun j => { s with journal := j })
    ((takeWord_journal word last s older younger w line data (hj.trans (List.append_cons ..).symm) hn).trans (List.append_cons ..))

/-- A word of a FILL before the sixteenth (R32). -/
theorem completeRead_more {s : State} {walk : Option Walk} {n : Nat} (hr : s.resync = .reading walk n) (hn : n < 15) (word : WordData) :
    completeRead word s = { takeWord word false s with resync := .reading walk (n + 1) } := by
  rw [completeRead, hr]
  exact if_pos hn

/-- The sixteenth word of a FILL (R32, R115, R121). -/
theorem completeRead_last {s : State} {walk : Option Walk} {w : WindowId} {line : LineNo} (hr : s.resync = .reading walk 15)
    (hline : fillingLine s = some (w, line)) (word : WordData) :
    completeRead word s = { takeWord word true (countLineCopied w s) with resync := advanceWalk s walk } := by
  rw [completeRead, hr]
  dsimp only
  rw [if_neg (Nat.lt_irrefl 15), hline]

/-- Settles O26: the words of a FILL, the words of a record, and the next masked word. -/
theorem internalCompletions : Obligations.InternalCompletions := by
  refine ⟨?read, ?apply, nextWord_eq_some_iff⟩
  case read =>
    intro x walk n older younger w line data s h hp hk hr hj hn
    have hmem : memoryAfter s x = s.mem := by rw [memoryAfter, hk]
    rw [exec_downstreamCompletion h, completeAccess_resync hp rfl, hmem]
    refine ⟨Memory.readWord s.mem x.addr, getElem_readWord s.mem x.addr, fun hlt => ?_, fun he => ?_⟩
    · rw [completeRead_more (s := { s with port := none }) hr hlt, takeWord_eq (s := { s with port := none }) _ _ hj hn]
      rfl
    · obtain rfl : n = 15 := by omega
      rw [completeRead_last (s := { s with port := none }) hr (fillingLine_eq hj hn),
        takeWord_eq (s := countLineCopied w { s with port := none }) _ _ hj hn]
      cases walk <;> rfl
  case apply =>
    intro x o r rest s h hp hk he hq
    rw [exec_downstreamCompletion h, completeAccess_apply hp rfl, completeApplyWord]
    simp only [he, hq]
    refine ⟨memoryAfter s x, fun hmem => read_memoryAfter hmem hk, fun o' hnext => ?_, fun hnext => ?_⟩
    · simp only [hnext]
    · simp only [hnext]

/-! ## The held write (R11 to R15) -/

theorem expireStall_nothing {s : State} (h : ∀ a w, s.upstream ≠ .held a w .stall) : expireStall s = s := by
  unfold expireStall
  split
  next a w d hu ht => exact absurd hu (h a w)
  next => rfl

/-- Settles O27: what a held write becomes in each of the ways out of the slot. -/
theorem heldWrite : Obligations.HeldWrite := by
  refine ⟨fun a w r s hu => ?held, fun s hno => ?empty, fun a w d s h hu ht => ?expires, fun s h hno => ?idle⟩
  case held =>
    refine ⟨by rw [representHeld, hu], ?_, ?_⟩
    · rintro rfl
      exact ⟨by rw [representStalled, hu], by rw [faultHeld, hu]⟩
    · rintro rfl
      refine ⟨by rw [representStalled, hu], ?_⟩
      rw [faultHeld, hu]
      rfl
  case empty =>
    refine ⟨?_, ?_, ?_⟩
    · obtain ⟨a, w, r, hu, -⟩ | ⟨-, h⟩ := representHeld_spec s
      · exact absurd hu (hno a w r)
      · exact h
    · unfold representStalled
      split
      next a w hu => exact absurd hu (hno a w .stall)
      all_goals rfl
    · unfold faultHeld
      split
      next a w hu => exact absurd hu (hno a w .handover)
      all_goals rfl
  case expires =>
    rw [exec_stallLimitExpiry h, expireStall, hu, ht]
  case idle => rw [exec_stallLimitExpiry h, expireStall_nothing hno]

end Sys2Proof.Machine

/-! # The link: its frames, its timers and its control (O33 to O38) -/

namespace Sys2Proof.Machine

open Sys2Proof

/-! ## One event -/

theorem next_live {f : State → State} {s t : State} (h : s.resetLow = false) (ht : f s = t) : whenLive f s = .next t :=
  ht ▸ whenLive_high f s h

theorem next_settled {f : State → State} {s t : State} (h : s.resetLow = false) (ht : f s = t) :
    whenLiveSettled f s = .next (settle s t) :=
  ht ▸ whenLiveSettled_high f s h

/-! ## The shared operations as record updates

`representHeld` and `sendFrame` choose by a field; written as one update each, they commute with every update of another field. -/

/-- The upstream access after a re-presentation (R14). -/
def Upstream.represented : Upstream → Upstream
  | .held a _ _ => .requesting a false
  | .none => .none
  | .requesting a forced => .requesting a forced
  | .inProgress a => .inProgress a

/-- The stall limit timer after a re-presentation (R14). -/
def Upstream.timerRepresented (timer : Timer) : Upstream → Timer
  | .held _ _ _ => .none
  | .none | .requesting _ _ | .inProgress _ => timer

theorem representHeld_eq (s : State) :
    representHeld s = { s with
      upstream := s.upstream.represented, stallTimer := s.upstream.timerRepresented s.stallTimer } := by
  obtain ⟨a, w, r, hu, h⟩ | ⟨hno, h⟩ := representHeld_spec s
  · rw [h, hu]
    rfl
  · rw [h]
    cases hu : s.upstream with
    | held a w r => exact absurd hu (hno a w r)
    | none | requesting | inProgress => exact congrArg (fun u => { s with upstream := u }) hu

/-- What is being sent after a frame is decided (R49). -/
def sending (f : Frame) (tx : Option Frame) (waiting : List Frame) : Option Frame :=
  if tx.isNone && waiting.isEmpty then some f else tx

/-- What waits after a frame is decided (R49). -/
def waitingBehind (f : Frame) (tx : Option Frame) (waiting : List Frame) : List Frame :=
  if tx.isNone && waiting.isEmpty then waiting else waiting ++ [f]

theorem sendFrame_eq (f : Frame) (s : State) :
    sendFrame f s = { s with
      link.tx := sending f s.link.tx s.link.txQueue, link.txQueue := waitingBehind f s.link.tx s.link.txQueue } := by
  unfold sendFrame sending waitingBehind
  split <;> rfl

theorem quietStarted_eq (p : LinkParams) :
    quietStarted p = if p.quiet = 0#8 then .stopped else .running (10 * p.quiet.toNat) := by
  have hzero : p.quietMs = 0 ↔ p.quiet = 0#8 := by
    rw [LinkParams.quietMs, ← BitVec.toNat_inj]
    simp
  simp only [quietStarted, hzero]
  rfl

theorem silenceStarted_eq (p : LinkParams) :
    silenceStarted p = if p.quiet = 0#8 then none else some (30 * p.quiet.toNat) := by
  have hzero : p.quietMs = 0 ↔ p.quiet = 0#8 := by
    rw [LinkParams.quietMs, ← BitVec.toNat_inj]
    simp
  have hms : p.silenceMs = 30 * p.quiet.toNat := by
    rw [LinkParams.silenceMs, LinkParams.quietMs]
    omega
  simp only [silenceStarted, hzero, hms]

theorem heard_activeSide {s : State} (hassoc : s.link.state.associated = true) (hside : s.role.activeSide = true) :
    heard s = { s with link.quietTimer := quietStarted s.linkParams } := by
  rw [heard, if_pos hassoc, if_pos hside]

theorem heard_standbyUp {s : State} (hup : s.link.state = .up) (hside : s.role.activeSide = false) :
    heard s = { s with standby.silenceTimer := silenceStarted s.linkParams } := by
  rw [heard, if_pos (by rw [hup]; rfl), if_neg (by rw [hside]; nofun), if_pos hup]

theorem leaveLink_eq (reason : PartReason) (s : State) :
    leaveLink reason s = representHeld { sendFrame (.part reason) s with
      link.state := .leaving, link.replyTimer := some s.linkParams.reply.toNat } := by
  simp only [leaveLink, enterLinkState, representHeld_eq, sendFrame_eq]
  rfl

theorem LinkState.associated_of {x : LinkState} (h : x = .up ∨ x = .recovery) : x.associated = true := x.associated_iff.2 h

theorem Role.activeSide_of {r : Role} (h : r = .active ∨ r = .handingOver) : r.activeSide = true := r.activeSide_iff.2 h

theorem Role.activeSide_eq_false_of {r : Role} (ha : r ≠ .active) (hh : r ≠ .handingOver) : r.activeSide = false :=
  Bool.eq_false_iff.2 fun h => ((Role.activeSide_iff r).1 h).elim ha hh

/-! ## The transmitter (R49, R50) -/

/-- Settles O38: the transmitter is free or not, and FRAME_DISCARD counts outside OFFLINE. -/
theorem transmitter : Obligations.Transmitter := by
  refine ⟨fun f s => ⟨fun ht hq => ?_, fun g ht => ?_⟩, fun f rest s h hq => ?_, fun s h hq => ?_, fun how s h => ⟨fun hl => ?_, fun hl => ?_⟩⟩
  · exact if_pos (by rw [ht, hq]; rfl)
  · exact if_neg (by rw [ht]; nofun)
  · exact next_live (f := endFrame) h (by rw [endFrame, hq]; rfl)
  · exact next_live (f := endFrame) h (by
      rw [endFrame, hq]
      exact congrArg (fun l => { s with link := { s.link with tx := none, txQueue := l } }) hq.symm)
  · exact next_live (f := discardFrame) h (if_neg hl)
  · exact next_live (f := discardFrame) h (if_pos hl)

/-! ## Frames that no association takes (R50, R51, R60, R61) -/

theorem endLeaving_eq (s : State) :
    endLeaving s = if s.link.enable then representHeld { s with link.state := .idle, link.replyTimer := none }
      else representHeld { s with link.state := .offline, link.replyTimer := none, link.txQueue := [], link.rxBody := none } := by
  rw [endLeaving]
  split <;> rfl

/-- Settles O33, by link state. -/
theorem framesOfAssociation : Obligations.FramesOfAssociation := by
  refine ⟨fun reason s h => ⟨fun hl => ?assoc, fun hl => ?leaving, fun hl => ?apart, fun hl => ?offline⟩,
    fun q a r final hold swap reason s h hv => ⟨fun hl => ?answered, fun hl => ?ignored, fun hl => ?idle, fun hin => ?again, fun hout => ?first⟩⟩
  case assoc =>
    obtain hl | hl := hl <;>
      exact ⟨next_settled (f := receivePart reason) h (by rw [receivePart, hl]; rfl),
        next_settled (f := receiveClosed) h (by rw [receiveClosed, hl]; rfl)⟩
  case leaving =>
    have hclosed : receiveClosed s = endLeaving s := by rw [receiveClosed, hl]
    refine ⟨next_settled (f := receivePart reason) h (by rw [receivePart, hl]), fun he => ?_, fun he => ?_⟩
    · exact next_settled (f := receiveClosed) h (by rw [hclosed, endLeaving_eq, if_pos he])
    · exact next_settled (f := receiveClosed) h (by rw [hclosed, endLeaving_eq, if_neg (Bool.eq_false_iff.1 he)])
  case apart =>
    obtain hl | hl := hl <;>
      exact ⟨next_settled (f := receivePart reason) h (by rw [receivePart, hl]),
        next_settled (f := receiveClosed) h (by rw [receiveClosed, hl])⟩
  case offline =>
    exact ⟨next_settled (f := receivePart reason) h (by rw [receivePart, hl]),
      next_settled (f := receiveClosed) h (by rw [receiveClosed, hl])⟩
  case answered =>
    obtain hl | hl := hl <;>
      exact ⟨next_settled (f := receiveRec q r) h (by rw [receiveRec, if_pos hv, hl]),
        next_settled (f := receiveAck a final hold swap) h (by rw [receiveAck, hl]),
        next_settled (f := receiveResend a q hold) h (by rw [receiveResend, hl]),
        next_settled (f := receiveAsk) h (by rw [receiveAsk, hl])⟩
  case ignored =>
    obtain hl | hl := hl <;>
      exact ⟨next_settled (f := receiveRec q r) h (by rw [receiveRec, if_pos hv, hl]),
        next_settled (f := receiveAck a final hold swap) h (by rw [receiveAck, hl]),
        next_settled (f := receiveResend a q hold) h (by rw [receiveResend, hl]),
        next_settled (f := receiveAsk) h (by rw [receiveAsk, hl]),
        next_settled (f := receiveJoin q) h (by rw [receiveJoin, hl]),
        next_settled (f := receiveAccept q) h (by rw [receiveAccept, hl]),
        next_settled (f := receiveDeny q reason) h (by rw [receiveDeny, hl])⟩
  case idle =>
    exact ⟨next_settled (f := receiveAccept q) h (by rw [receiveAccept, hl]),
      next_settled (f := receiveDeny q reason) h (by rw [receiveDeny, hl])⟩
  case again => exact if_pos (List.contains_iff_mem.2 hin)
  case first => exact if_neg fun hc => hout (List.contains_iff_mem.1 hc)

/-! ## JOIN (R56 to R58) -/

theorem answerJoin_empty {s : State} (session : Byte) (hr : s.role = .standby) (hq : s.standby.queue = []) :
    answerJoin session s = acceptJoin session s := by
  rw [answerJoin, hr]
  exact if_pos (by rw [hq]; rfl)

theorem answerJoin_queue {s : State} (session : Byte) (hr : s.role = .standby) (hq : s.standby.queue ≠ []) :
    answerJoin session s = { s with link.deferredJoin := some session } := by
  rw [answerJoin, hr]
  exact if_neg fun he => hq (List.isEmpty_iff.1 he)

theorem endAssociation_standbySide (reason : LossReason) (peer : Option PartReason) {s : State} (hside : s.role.activeSide = false) :
    endAssociation reason peer s = standbyLoss reason peer s := by
  rw [endAssociation, hside, if_neg nofun]

theorem enterLinkState_role (x : LinkState) (s : State) : (enterLinkState x s).role = s.role :=
  (congrArg State.role (enterLinkState_frame x s) :)

theorem enterLinkState_standby (x : LinkState) (s : State) : (enterLinkState x s).standby = s.standby :=
  (congrArg State.standby (enterLinkState_frame x s) :)

theorem receiveJoin_standbyUp {s : State} (session : Byte) (hl : s.link.state = .up) (hr : s.role = .standby) :
    receiveJoin session s =
      if s.link.acceptRepeat && session == s.link.session then sendFrame (.accept session) (heard s)
      else answerJoin session (enterLinkState .idle (standbyLoss .peerRejoin none s)) := by
  rw [receiveJoin, hl, hr]
  exact if_neg nofun

/-- Settles O34, by link state, then by role. -/
theorem joinHandling : Obligations.JoinHandling := by
  intro session s h
  refine ⟨fun hl => ?idle, fun hl => ?joining, fun hl hr => ?activeSide, fun hl hr => ⟨fun hrep hses => ?repeated, fun hnew => ?rejoin⟩⟩
  case idle =>
    have hanswer {t : State} (ht : answerJoin session s = t) : exec (.joinReceived session) s = .next (settle s t) :=
      next_settled (f := receiveJoin session) h (by rw [receiveJoin, hl]; exact ht)
    refine ⟨fun hr hq => hanswer (answerJoin_empty session hr hq), fun hr hq => hanswer (answerJoin_queue session hr hq),
      fun hr => ?_, fun hr => ?_, fun hr => hanswer (by rw [answerJoin, hr])⟩
    · obtain hr | hr := hr <;> exact hanswer (by rw [answerJoin, hr]; rfl)
    · obtain hr | hr := hr <;> exact hanswer (by rw [answerJoin, hr])
  case joining => exact next_settled (f := receiveJoin session) h (by rw [receiveJoin, hl]; rfl)
  case activeSide =>
    have hheard := heard_activeSide (LinkState.associated_of hl) (Role.activeSide_of hr)
    rw [quietStarted_eq] at hheard
    refine next_settled (f := receiveJoin session) h ?_
    rw [receiveJoin, if_pos (Role.activeSide_of hr), hheard]
    obtain hl | hl := hl <;> rw [hl] <;> rfl
  case repeated =>
    have hheard := heard_standbyUp hl (s := s) (by rw [hr]; rfl)
    rw [silenceStarted_eq] at hheard
    refine next_settled (f := receiveJoin session) h ?_
    rw [receiveJoin_standbyUp session hl hr, if_pos (by simp [hrep, hses]), hheard]
  case rejoin =>
    refine ⟨_, rfl, fun hq => ?_, fun hq => ?_⟩ <;> refine next_settled (f := receiveJoin session) h ?_ <;>
      rw [receiveJoin_standbyUp session hl hr, if_neg (by obtain hn | hn := hnew <;> simp [hn]),
        endAssociation_standbySide _ _ (by rw [hr]; rfl)]
    · exact answerJoin_empty session ((enterLinkState_role ..).trans hr) ((congrArg Standby.queue (enterLinkState_standby ..)).trans hq)
    · exact answerJoin_queue session ((enterLinkState_role ..).trans hr)
        fun he => hq ((congrArg Standby.queue (enterLinkState_standby .idle (standbyLoss .peerRejoin none s))).symm.trans he)

/-! ## ACCEPT and DENY (R51, R54, R59) -/

/-- Settles O35: the session decides in JOINING, and both entries to UP are one update each. -/
theorem joinAnswers : Obligations.JoinAnswers := by
  refine ⟨fun session reason s h hl hses => ?other, fun s h hl => ⟨?accept, ?conflict, fun reason hne => ?denied⟩,
    fun session reason s h hl => ?assoc, fun session s => ?standby⟩
  case other =>
    exact ⟨next_settled (f := receiveAccept session) h (by rw [receiveAccept, hl]; exact if_neg hses),
      next_settled (f := receiveDeny session reason) h (by rw [receiveDeny, hl]; exact if_neg hses)⟩
  case accept =>
    refine next_settled (f := receiveAccept s.link.session) h ?_
    rw [receiveAccept, hl, ← quietStarted_eq]
    exact if_pos rfl
  case conflict =>
    refine next_settled (f := receiveDeny s.link.session .roleConflict) h ?_
    rw [receiveDeny, hl]
    refine (if_pos rfl).trans ?_
    simp only [deniedJoin, enterLinkState, representHeld_eq]
    rfl
  case denied =>
    refine next_settled (f := receiveDeny s.link.session reason) h ?_
    rw [receiveDeny, hl]
    refine (if_pos rfl).trans ?_
    cases reason with
    | roleConflict => exact absurd rfl hne
    | noRole | roleChanging => rfl
  case assoc =>
    obtain hl | hl := hl <;>
      exact ⟨next_settled (f := receiveAccept session) h (by rw [receiveAccept, hl]),
        next_settled (f := receiveDeny session reason) h (by rw [receiveDeny, hl])⟩
  case standby =>
    rw [acceptJoin, ← silenceStarted_eq]
    simp only [enterLinkState, sendFrame_eq]
    rfl

/-! ## The timers of the active side (R52, R53, R61, R76, R78, R84) -/

theorem sentEntries_eq_zero_iff (s : State) : sentEntries s = 0 ↔ ∀ e ∈ s.journal, ∀ q n, e.state ≠ .sent q n := by
  rw [sentEntries, List.countP_eq_zero]
  simp only [isSent_iff, not_exists]

theorem enterRecovery_eq (s : State) :
    enterRecovery s = { sendFrame .ask s with
      link.state := .recovery, link.retry := 1, link.replyTimer := some s.linkParams.reply.toNat
      linkStats.askSent := s.linkStats.askSent + 1 } := by
  simp only [enterRecovery, sendAsk, enterLinkState, sendFrame_eq]
  rfl

theorem not_isNone {α : Type} {o : Option α} {x : α} (h : o = some x) : ¬o.isNone = true := by
  rw [h]
  nofun

/-- Settles O36: each expiry by the link state it finds. -/
theorem linkTimers : Obligations.LinkTimers := by
  refine ⟨⟨fun d s h hd hr he hl hj => ?rejoin, fun d s h hd hl => ⟨fun hlt => ?joinAgain, fun hle => ?joinEnds⟩,
    fun d s h hd hl => ⟨fun he => ?leavesIdle, fun he => ?leavesOffline⟩⟩, fun d s h hd hl => ?recovery,
    fun d s h hd hl => ⟨fun hlt => ?askAgain, fun hle => ?noReply⟩, fun d s h hd => ⟨fun hl hno => ?quietAsks, fun hl => ?quietStays⟩⟩
  case rejoin =>
    refine next_settled (f := expireRejoin) h ?_
    rw [expireRejoin, if_pos (by simp [hd, (joinConditions_iff s).2, hr, he, hl, hj])]
    simp only [enterLinkState, representHeld_eq, sendFrame_eq]
    rfl
  case joinAgain =>
    refine next_settled (f := expireReply) h ?_
    rw [expireReply, if_neg (not_isNone hd), hl]
    refine (if_pos hlt).trans ?_
    simp only [sendFrame_eq]
    rfl
  case joinEnds =>
    refine next_settled (f := expireReply) h ?_
    rw [expireReply, if_neg (not_isNone hd), hl]
    exact if_neg (Nat.not_lt.2 hle)
  case leavesIdle =>
    exact next_settled (f := expireReply) h (by rw [expireReply, if_neg (not_isNone hd), hl, endLeaving_eq, if_pos he])
  case leavesOffline =>
    refine next_settled (f := expireReply) h ?_
    rw [expireReply, if_neg (not_isNone hd), hl, endLeaving_eq, if_neg (Bool.eq_false_iff.1 he)]
  case recovery => exact next_settled (f := expireReply) h (by rw [expireReply, if_neg (not_isNone hd), hl, enterRecovery_eq])
  case askAgain =>
    refine next_settled (f := expireReply) h ?_
    rw [expireReply, if_neg (not_isNone hd), hl]
    refine (if_pos hlt).trans ?_
    simp only [sendAsk, sendFrame_eq]
    rfl
  case noReply =>
    refine next_settled (f := expireReply) h ?_
    rw [expireReply, if_neg (not_isNone hd), hl]
    exact if_neg (Nat.not_lt.2 hle)
  case quietAsks =>
    refine next_settled (f := expireQuiet) h ?_
    rw [expireQuiet, hd]
    refine (if_pos ⟨hl, (sentEntries_eq_zero_iff s).2 hno⟩).trans ?_
    rw [enterRecovery_eq]
    simp only [sendFrame_eq]
  case quietStays =>
    refine next_settled (f := expireQuiet) h ?_
    rw [expireQuiet, hd]
    refine if_neg fun hc => ?_
    obtain ⟨hup, hzero⟩ := hc
    obtain hno | ⟨e, he, q, n, hs⟩ := hl
    · exact hno hup
    · exact (sentEntries_eq_zero_iff s).1 hzero e he q n hs

/-! ## LINK CONTROL (R47, R48) -/

theorem exec_enable {s : State} (h : s.resetLow = false) :
    exec (.linkControlEnable 0x01#8) s = .next (answer 0x74#8 .ok 0 [] (settle s (enableLink s))) := by
  show execLinkControlEnable _ s = _
  rw [execLinkControlEnable, whenLive_high _ s h, if_pos rfl, accept]

theorem exec_disable {s : State} (h : s.resetLow = false) :
    exec (.linkControlDisable 0x02#8) s = .next (answer 0x74#8 .ok 0 [] (settle s (disableLink s))) := by
  show execLinkControlDisable _ s = _
  rw [execLinkControlDisable, whenLive_high _ s h, if_pos rfl, accept]

theorem exec_disable_undefined {operation : Byte} (hop : operation ≠ 0x02#8) {s : State} (h : s.resetLow = false) :
    exec (.linkControlDisable operation) s = .next (answer 0x74#8 .badParam 0 [] s) := by
  show execLinkControlDisable _ s = _
  rw [execLinkControlDisable, whenLive_high _ s h, if_neg hop, refuse]

/-- Settles O37, by link state. -/
theorem linkControl : Obligations.LinkControl := by
  intro s h
  have hon {t : State} (ht : enableLink s = t) :
      exec (.linkControlEnable 0x01#8) s = .next (answer 0x74#8 .ok 0 [] (settle s t)) := ht ▸ exec_enable h
  have hoff {t : State} (ht : disableLink s = t) :
      exec (.linkControlDisable 0x02#8) s = .next (answer 0x74#8 .ok 0 [] (settle s t)) := ht ▸ exec_disable h
  refine ⟨fun hl => hon ?wakes, fun hl => hon (if_neg hl), fun hl => hoff ?stays, fun hl => hoff ?idle, fun hl => hoff ?joining,
    fun hl => ⟨_, rfl, hoff ?assoc⟩, fun operation _ hop => exec_disable_undefined hop h⟩
  case wakes =>
    refine (if_pos hl).trans ?_
    simp only [enterLinkState, representHeld_eq]
  case stays => obtain hl | hl := hl <;> simp only [disableLink, hl]
  case idle =>
    simp only [disableLink, hl]
    rfl
  case joining =>
    simp only [disableLink, hl, leaveLink_eq, sendFrame_eq]
  case assoc => obtain hl | hl := hl <;> simp only [disableLink, hl, leaveAssociation, leaveLink_eq]

end Sys2Proof.Machine

/-! # Roles (O43 to O46) -/

namespace Sys2Proof.Machine

open Sys2Proof

/-! ## A change of role as one update (R124) -/

theorem dropAccess_eq (o : PortOwner) (s : State) :
    dropAccess o s = { s with port := s.port.map fun p => if p.owner = o then { p with owner := .dropped } else p } := by
  unfold dropAccess
  split
  next p hp =>
    split
    next ho => rw [hp, Option.map_some, if_pos ho]
    next ho =>
      rw [hp, Option.map_some, if_neg ho]
      exact congrArg (fun x => { s with port := x }) hp
  next hp =>
    rw [hp]
    exact congrArg (fun x => { s with port := x }) hp

/-- The maps with the walk's track marked again (R117). -/
def trackRestored (s : State) : Vector TrackMap 8 :=
  match s.resync.walk with
  | some p => (markTrack p.window p.track s).maps
  | none => s.maps

theorem getLsbD_trackRestored (s : State) (w : WindowId) (k : Nat) :
    (trackRestored s)[w].getLsbD k = true ↔
      s.maps[w].getLsbD k = true ∨ (k < 64 ∧ ∃ p, s.resync.walk = some p ∧ p.window = w ∧ p.track = k) := by
  unfold trackRestored
  split
  next p hp =>
    rw [getLsbD_markTrack, hp]
    simp only [Bool.or_eq_true, Bool.and_eq_true, decide_eq_true_iff, Option.some.injEq, exists_eq_left']
    exact or_congr_right ⟨fun ⟨⟨hw, hk⟩, hlt⟩ => ⟨hlt, hw.symm, hk.symm⟩, fun ⟨hlt, hw, hk⟩ => ⟨⟨hw.symm, hk.symm⟩, hlt⟩⟩
  next hno => simp [hno]

theorem resyncStop_eq (s : State) :
    resyncStop s = { s with
      maps := trackRestored s, resync := .idle
      port := s.port.map fun p => if p.owner = .resync then { p with owner := .dropped } else p } := by
  rw [resyncStop, dropAccess_eq, trackRestored]
  cases s.resync.walk <;> rfl

/-- The role leaves ACTIVE. -/
abbrev LeavesActive (new : Role) (s : State) : Prop := s.role = .active ∧ new ≠ .active

/-- The role leaves the active side. -/
abbrev LeavesSide (new : Role) (s : State) : Prop :=
  (s.role = .active ∨ s.role = .handingOver) ∧ new ≠ .active ∧ new ≠ .handingOver

/-- The maps after a change of role (R110, R117). -/
def mapsAfterRole (new : Role) (s : State) : Vector TrackMap 8 :=
  if LeavesSide new s then Vector.replicate 8 0#64 else if LeavesActive new s then trackRestored s else s.maps

/-- What a change of role does but for a deferred JOIN. -/
def assigned (new : Role) (s : State) : State :=
  { representHeld s with
    role := new, link.joinSuspended := false, keptSwap := none
    resync := if s.role = .active ∧ new ≠ .active then .idle else s.resync
    port :=
      if s.role = .active ∧ new ≠ .active then s.port.map fun p => if p.owner = .resync then { p with owner := .dropped } else p
      else s.port
    maps := mapsAfterRole new s
    journal := if (s.role = .active ∨ s.role = .handingOver) ∧ new ≠ .active ∧ new ≠ .handingOver then [] else s.journal }

theorem stopOnLeavingActive_eq (new : Role) (s : State) :
    stopOnLeavingActive new s = { s with
      maps := if LeavesActive new s then trackRestored s else s.maps
      resync := if LeavesActive new s then .idle else s.resync
      port :=
        if LeavesActive new s then s.port.map fun p => if p.owner = .resync then { p with owner := .dropped } else p
        else s.port } := by
  unfold stopOnLeavingActive
  by_cases h : LeavesActive new s
  · simp only [if_pos h, resyncStop_eq]
  · simp only [if_neg h]

theorem leavesSide_iff (new : Role) (s : State) :
    LeavesSide new s ↔ s.role.activeSide = true ∧ new.activeSide = false := by
  rw [Role.activeSide_iff, ← Bool.not_eq_true, Role.activeSide_iff, not_or]

theorem emptyOnLeavingSide_eq (new : Role) (s : State) :
    emptyOnLeavingSide new s = { s with
      maps := if LeavesSide new s then Vector.replicate 8 0#64 else s.maps
      journal := if LeavesSide new s then [] else s.journal } := by
  unfold emptyOnLeavingSide
  by_cases h : LeavesSide new s
  · simp only [if_pos h, if_pos ((leavesSide_iff new s).1 h)]
    rfl
  · simp only [if_neg h, if_neg fun hc => h ((leavesSide_iff new s).2 hc)]

theorem changeRole_eq (new : Role) (s : State) : changeRole new s = answerDeferred (assigned new s) := by
  rw [changeRole, stopOnLeavingActive_eq, emptyOnLeavingSide_eq]
  simp only [assigned, mapsAfterRole, representHeld_eq]

theorem assigned_deferredJoin (new : Role) (s : State) : (assigned new s).link.deferredJoin = s.link.deferredJoin :=
  (congrArg Link.deferredJoin (representHeld_link s) :)

theorem answerDeferred_none {s : State} (hd : s.link.deferredJoin = none) : answerDeferred s = s := by
  unfold answerDeferred
  rw [hd]

theorem changeRole_none {s : State} (hd : s.link.deferredJoin = none) (new : Role) : changeRole new s = assigned new s := by
  rw [changeRole_eq, answerDeferred_none ((assigned_deferredJoin new s).trans hd)]

/-- Settles O43: the deferred JOIN aside, a change of role is the one update `assigned`. -/
theorem changeOfRole : Obligations.ChangeOfRole := by
  intro new s
  refine ⟨assigned new s, rfl, fun hs hna hnh w => ?cleared, fun ha hnew w k => ?restored, fun hkeep => ?kept, fun hd => changeRole_none hd new,
    fun session hd => ?deferred⟩
  case cleared =>
    show (mapsAfterRole new s)[w] = _
    rw [mapsAfterRole, if_pos ⟨hs, hna, hnh⟩]
    simp
  case restored =>
    show (mapsAfterRole new s)[w].getLsbD k = true ↔ _
    rw [mapsAfterRole, if_neg fun hc => hc.2.2 hnew, if_pos ⟨ha, by rw [hnew]; nofun⟩]
    exact getLsbD_trackRestored s w k
  case kept =>
    show mapsAfterRole new s = _
    rw [mapsAfterRole, if_neg, if_neg]
    · rintro ⟨ha, hna⟩
      obtain ⟨hno, -⟩ | hna' | ⟨hh, -⟩ := hkeep
      · exact hno ha
      · exact hna hna'
      · rw [ha] at hh
        cases hh
    · rintro ⟨hs, hna, hnh⟩
      obtain ⟨hno, hno'⟩ | hna' | ⟨-, hnh'⟩ := hkeep
      · exact hs.elim hno hno'
      · exact hna hna'
      · exact hnh hnh'
  case deferred =>
    have hsome : (assigned new s).link.deferredJoin = some session := (assigned_deferredJoin new s).trans hd
    have hrole : (assigned new s).role = new := rfl
    rw [changeRole_eq, answerDeferred, hsome, hrole]
    refine ⟨?_, ?_, ?_, ?_⟩
    · rintro rfl
      rfl
    · rintro rfl
      rfl
    · rintro rfl
      rfl
    · rintro (rfl | rfl | rfl) <;> rfl

/-! ## What a change of role leaves -/

theorem changeRole_maps (new : Role) (s : State) : (changeRole new s).maps = mapsAfterRole new s := by
  rw [changeRole_eq]
  exact (congrArg State.maps (answerDeferred_frame _) :)

theorem changeRole_windows (new : Role) (s : State) : (changeRole new s).windows = s.windows := by
  obtain ⟨⟨-, -, hwindows, -, -⟩, -⟩ := changeRole_routine new s
  exact hwindows

theorem changeRole_linkParams (new : Role) (s : State) : (changeRole new s).linkParams = s.linkParams := by
  obtain ⟨⟨-, -, -, hlink, -⟩, -⟩ := changeRole_routine new s
  exact hlink

theorem changeRole_pathParams (new : Role) (s : State) : (changeRole new s).pathParams = s.pathParams := by
  obtain ⟨⟨-, -, -, -, hpath⟩, -⟩ := changeRole_routine new s
  exact hpath

theorem changeRole_standby (new : Role) (s : State) : (changeRole new s).standby = s.standby := by
  rw [changeRole_eq]
  refine (congrArg State.standby (answerDeferred_frame (assigned new s)) :).trans ?_
  exact (congrArg State.standby (representHeld_frame s) :)

theorem changeRole_port {new : Role} {s : State} (h : s.role ≠ .active) : (changeRole new s).port = s.port := by
  rw [changeRole_eq]
  refine (congrArg State.port (answerDeferred_frame (assigned new s)) :).trans ?_
  exact if_neg fun hc => h hc.1

theorem mapsAfterRole_active (s : State) : mapsAfterRole .active s = s.maps := by
  rw [mapsAfterRole, if_neg fun h => h.2.1 rfl, if_neg fun h => h.2 rfl]

theorem becomeActiveMarked_eq (s : State) :
    becomeActiveMarked s = { changeRole .active s with
      maps := Vector.ofFn fun w : Fin 8 => if s.windows[w].mode = .mirror then BitVec.allOnes 64 else s.maps[w] } := by
  refine congrArg (fun m => { changeRole .active s with maps := m }) ?_
  rw [changeRole_windows, changeRole_maps, mapsAfterRole_active]

/-! ## SET ROLE (R105, R126, R127) -/

/-- The association or the joining ends first where a role is withdrawn (R62, R127). -/
def linkWithdrawn (s : State) : State :=
  if s.link.state.associated then leaveAssociation .roleChange s
  else if s.link.state = .joining then leaveLink .roleChange { s with link.retry := 0 }
  else s

theorem withdrawRole_active {s : State} (hr : s.role = .active) : withdrawRole s = changeRole .unassigned (linkWithdrawn s) := by
  have hno : ¬s.role = .standby := by rw [hr]; nofun
  exact if_neg hno

theorem leaveLink_frame (reason : PartReason) (s : State) :
    (leaveLink reason s).role = s.role ∧ (leaveLink reason s).standby = s.standby ∧ (leaveLink reason s).port = s.port := by
  rw [leaveLink_eq, representHeld_eq, sendFrame_eq]
  exact ⟨rfl, rfl, rfl⟩

/-- What is left of a STANDBY part's apply queue and port when its link is withdrawn. -/
theorem linkWithdrawn_standby {s : State} (hr : s.role = .standby) :
    (linkWithdrawn s).role = .standby ∧ (linkWithdrawn s).standby.receiveNext = s.standby.receiveNext ∧
      (linkWithdrawn s).port = s.port := by
  unfold linkWithdrawn
  split
  · rw [leaveAssociation, endAssociation_standbySide _ _ (by rw [hr]; rfl)]
    obtain ⟨hrole, hstandby, hport⟩ := leaveLink_frame .roleChange (standbyLoss .locally none s)
    exact ⟨hrole.trans hr, (congrArg Standby.receiveNext hstandby).trans rfl, hport⟩
  split
  · obtain ⟨hrole, hstandby, hport⟩ := leaveLink_frame .roleChange { s with link.retry := 0 }
    exact ⟨hrole.trans hr, congrArg Standby.receiveNext hstandby, hport⟩
  · exact ⟨hr, rfl, rfl⟩

theorem withdrawRole_standby {s : State} (hr : s.role = .standby) :
    withdrawRole s = { changeRole .unassigned (linkWithdrawn s) with
      standby.queue := [], standby.engine := .idle, standby.appliedNext := s.standby.receiveNext
      standby.resendException := false, standby.holding := false, standby.sinceReport := 0
      port := s.port.map fun p => if p.owner = .apply then { p with owner := .dropped } else p } := by
  obtain ⟨hrole, hnext, hport⟩ := linkWithdrawn_standby hr
  have hstandby : (changeRole .unassigned (linkWithdrawn s)).standby.receiveNext = s.standby.receiveNext :=
    (congrArg Standby.receiveNext (changeRole_standby _ _)).trans hnext
  have hport : (changeRole .unassigned (linkWithdrawn s)).port = s.port :=
    (changeRole_port (by rw [hrole]; nofun)).trans hport
  refine (if_pos hr).trans ?_
  show discardQueue (changeRole .unassigned (linkWithdrawn s)) = _
  rw [discardQueue, dropAccess_eq, hstandby, hport]

/-- Settles O44: every accepted row of the table, each by the procedure it runs. -/
theorem roleAssignments : Obligations.RoleAssignments := by
  intro s h
  have hset {target : Byte} {t : State} (ht : setRole target s = answer 0x70#8 .ok 0 [] (settle s t)) :
      exec (.setRole target) s = .next (answer 0x70#8 .ok 0 [] (settle s t)) := ht ▸ exec_setRole target h
  refine ⟨fun hr => hset ?activated, fun hr => hset ?stoodBy, fun hr => hset ?unfenced, fun hr =>
    ⟨_, linkWithdrawn s, rfl, fun hl => ?assoc, fun hl => ?joining, fun hl => ?apart, fun hr => hset ?active, fun hr => hset ?standby⟩⟩
  case activated =>
    rw [← becomeActiveMarked_eq, setRole, hr]
    rfl
  case stoodBy =>
    obtain hr | hr := hr <;>
    · rw [setRole, hr]
      rfl
  case unfenced =>
    rw [setRole, hr]
    rfl
  case assoc => rw [linkWithdrawn, if_pos (LinkState.associated_of hl), leaveAssociation, leaveLink_eq]
  case joining =>
    rw [linkWithdrawn, if_neg (by rw [hl]; nofun), if_pos hl, leaveLink_eq]
    simp only [sendFrame_eq]
  case apart => obtain hl | hl | hl := hl <;> exact (if_neg (by rw [hl]; nofun)).trans (if_neg (by rw [hl]; nofun))
  case active =>
    rw [← withdrawRole_active hr, setRole, hr]
    rfl
  case standby =>
    rw [← withdrawRole_standby hr, setRole, hr]
    rfl

/-! ## PROMOTE (R128 to R130) -/

theorem exec_promote (force : Byte) {s : State} (h : s.resetLow = false) : exec (.promote force) s = .next (promote force s) :=
  whenLive_high (promote force) s h

theorem completePromotion_eq (s : State) :
    completePromotion s = setCause .promoted { changeRole .active s with
      maps := Vector.ofFn fun w : Fin 8 =>
        if s.windows[w].mode = .mirror then BitVec.allOnes 64 else (changeRole .active s).maps[w] } := by
  refine congrArg (fun m => setCause .promoted { changeRole .active s with maps := m }) ?_
  rw [changeRole_windows]

/-- The link as a promotion finds it: its association, if it is UP, has ended (R129). -/
def linkLeft (s : State) : State := if s.link.state = .up then leaveAssociation .roleChange s else s

theorem linkLeft_queue {s : State} (hr : s.role = .standby) : (linkLeft s).standby.queue = s.standby.queue := by
  unfold linkLeft
  split
  · rw [leaveAssociation, endAssociation_standbySide _ _ (by rw [hr]; rfl)]
    obtain ⟨-, hstandby, -⟩ := leaveLink_frame .roleChange (standbyLoss .locally none s)
    exact (congrArg Standby.queue hstandby).trans rfl
  · rfl

theorem startPromotion_eq {s : State} (hr : s.role = .standby) :
    startPromotion s = if s.standby.queue = [] then completePromotion (changeRole .promoting (linkLeft s))
      else changeRole .promoting (linkLeft s) := by
  have hqueue : (changeRole .promoting (linkLeft s)).standby.queue = s.standby.queue :=
    (congrArg Standby.queue (changeRole_standby _ _)).trans (linkLeft_queue hr)
  show (if (changeRole .promoting (linkLeft s)).standby.queue.isEmpty = true then _ else _) = _
  simp only [hqueue, List.isEmpty_iff]
  rfl

/-- Settles O45: the checks by role, then the drain or the completion. -/
theorem promotion : Obligations.Promotion := by
  intro force s h
  have hset {t : State} (ht : promote force s = t) : exec (.promote force) s = .next t := ht ▸ exec_promote force h
  refine ⟨fun hforce => hset (if_pos hforce), fun hforce => ⟨fun hr => hset ?wrongRole, fun hr => hset ?fenced, fun hr hl hf => hset ?busy,
    fun hr hok => ⟨_, linkLeft s, rfl, fun hl => ?left, fun hl => if_neg hl, fun hq => hset ?drains, fun hq => hset ?empty⟩⟩,
    completePromotion_eq s⟩
  case wrongRole =>
    obtain hr | hr | hr | hr := hr <;>
    · rw [promote, if_neg (Nat.not_lt.2 hforce), hr]
      rfl
  case fenced =>
    rw [promote, if_neg (Nat.not_lt.2 hforce), hr]
    rfl
  case busy =>
    rw [promote, if_neg (Nat.not_lt.2 hforce), hr]
    exact if_pos ⟨hl, hf⟩
  case left => rw [linkLeft, if_pos hl, leaveAssociation, leaveLink_eq]
  all_goals
    have hgo : promote force s = answer 0x71#8 .ok 0 [] (settle s (startPromotion s)) := by
      rw [promote, if_neg (Nat.not_lt.2 hforce), hr]
      refine if_neg fun hc => ?_
      obtain ⟨hup, hzero⟩ := hc
      obtain hno | hone := hok
      · exact hno hup
      · rw [hone] at hzero
        cases hzero
    rw [hgo, startPromotion_eq hr]
  case drains => rw [if_neg hq]
  case empty => rw [if_pos hq]

/-! ## HANDOVER (R131, R133, R134) -/

theorem exec_handover {s : State} (h : s.resetLow = false) : exec .handover s = .next (handover s) := whenLive_high handover s h

theorem WindowMode.eq_off_iff (m : WindowMode) : m = .off ↔ m ≠ .mirror := by cases m <;> simp

theorem allInSync_iff (s : State) :
    allInSync s = true ↔ ∀ w : WindowId, s.windows[w].mode = .mirror → syncState s w = .inSync := by
  simp only [allInSync, List.all_eq_true, mem_windowIds, true_imp_iff, Bool.or_eq_true, beq_iff_eq, WindowMode.eq_off_iff, ne_eq,
    ← imp_iff_not_or]

theorem handoverBusy_iff (s : State) :
    handoverBusy s = true ↔
      (∃ a w, s.upstream = .held a w .stall) ∨ (∃ a, s.upstream = .requesting a true) ∨ (∃ walk n, s.resync = .reading walk n) := by
  have hfill : s.resync.filling = true ↔ ∃ walk n, s.resync = .reading walk n := by
    cases s.resync <;> simp [Resync.filling]
  rw [handoverBusy, Bool.or_eq_true, hfill, ← or_assoc]
  refine or_congr_left ?_
  cases hu : s.upstream with
  | held a w r => cases r <;> simp
  | none | requesting | inProgress => simp

theorem startHandover_eq (s : State) :
    startHandover s = { changeRole .handingOver { s with journal := s.journal ++ [{ body := .takeover, state := .pending }] } with
      handoverTimer := some (10 * s.pathParams.handoverTime.toNat) } := by
  have hpath := changeRole_pathParams .handingOver (appendEntry { body := .takeover, state := .pending } s)
  show { changeRole .handingOver (appendEntry { body := .takeover, state := .pending } s) with
    handoverTimer := some (changeRole .handingOver (appendEntry { body := .takeover, state := .pending } s)).pathParams.handoverMs } = _
  rw [hpath]
  rfl

theorem faultHeld_stopHandover (s : State) :
    faultHeld { s with handoverTimer := none } = { faultHeld s with handoverTimer := none } := by
  unfold faultHeld
  dsimp only
  split <;> rfl

theorem completeHandover_eq (s : State) :
    completeHandover s = setCause .handoverDone { changeRole .standby (faultHeld { s with handoverTimer := none }) with
      link.state := .up, link.ackPoint := 0#8, link.sendPoint := 0#8, link.cursor := 0#8
      standby.receiveNext := 0#8, standby.appliedNext := 0#8, link.peerHold := false, link.retry := 0
      link.replyTimer := none, link.quietTimer := .stopped, link.acceptRepeat := false
      standby.resendException := false, standby.holding := false, standby.sinceReport := 0
      standby.silenceTimer := if s.linkParams.quiet = 0#8 then none else some (30 * s.linkParams.quiet.toNat) } := by
  have hparams : (changeRole .standby (faultHeld { s with handoverTimer := none })).linkParams = s.linkParams :=
    (changeRole_linkParams ..).trans (congrArg State.linkParams (faultHeld_frame { s with handoverTimer := none }) :)
  have hsilence : (if s.linkParams.quiet = 0#8 then none else some (30 * s.linkParams.quiet.toNat)) =
      silenceStarted (changeRole .standby (faultHeld { s with handoverTimer := none })).linkParams := by
    rw [hparams, silenceStarted_eq]
  rw [hsilence, faultHeld_stopHandover]
  rfl

/-- Settles O46: the checks of R131 in their order, the timer by the youngest entry, and the completion as one update. -/
theorem plannedHandover : Obligations.PlannedHandover := by
  refine ⟨fun s h => ?command, fun d s h hr hd => ⟨fun older hj => ?withdrawn, fun hno => ?stays⟩, completeHandover_eq⟩
  case command =>
    have hset {t : State} (ht : handover s = t) : exec .handover s = .next t := ht ▸ exec_handover h
    refine ⟨fun hr => hset (if_pos hr), fun hr => ?_⟩
    have hrole : ¬s.role ≠ .active := not_not.2 hr
    refine ⟨fun hl => hset ?_, fun hup hrec => hset ?_, fun hup => ?_⟩
    · rw [handover, if_neg hrole, if_pos hl, refuse]
    · rw [handover, if_neg hrole, if_neg hrec, if_pos hup, refuse]
    have hrec : ¬s.link.state = .recovery := by rw [hup]; nofun
    have hupp : ¬s.link.state ≠ .up := not_not.2 hup
    refine ⟨fun ⟨w, hw, hsync⟩ => hset ?_, fun hall => ?_⟩
    · have hno : allInSync s = false := Bool.eq_false_iff.2 fun hc => hsync ((allInSync_iff s).1 hc w hw)
      rw [handover, if_neg hrole, if_neg hrec, if_neg hupp, if_pos hno, refuse]
    have hsync : ¬allInSync s = false := by rw [(allInSync_iff s).2 hall]; nofun
    refine ⟨fun hb => hset ?_, fun hstall hforced hfill => ?_⟩
    · rw [handover, if_neg hrole, if_neg hrec, if_neg hupp, if_neg hsync, if_pos ((handoverBusy_iff s).2 hb), refuse]
    have hbusy : ¬handoverBusy s = true := fun hc => by
      obtain ⟨a, w, hu⟩ | ⟨a, hu⟩ | ⟨walk, n, hx⟩ := (handoverBusy_iff s).1 hc
      · exact hstall a w hu
      · exact hforced a hu
      · exact hfill walk n hx
    refine ⟨fun hfull => hset ?_, fun hroom => hset ?_⟩
    · have hnone : freeEntries s = 0 := Nat.sub_eq_zero_of_le hfull
      rw [handover, if_neg hrole, if_neg hrec, if_neg hupp, if_neg hsync, if_neg hbusy, if_pos hnone, refuse]
    · have hsome : ¬freeEntries s = 0 := Nat.sub_ne_zero_of_lt hroom
      rw [handover, if_neg hrole, if_neg hrec, if_neg hupp, if_neg hsync, if_neg hbusy, if_neg hsome, accept, startHandover_eq]
  all_goals
    refine next_settled (f := expireHandover) h ?_
    rw [expireHandover, if_pos (by rw [hd, hr]; rfl)]
  case withdrawn =>
    refine (if_pos ((takeoverPending_iff s).2 ⟨older, hj⟩)).trans ?_
    rw [hj, List.dropLast_concat]
  case stays => exact if_neg fun hc => ((takeoverPending_iff s).1 hc).elim hno

end Sys2Proof.Machine

/-! # FENCED, checkpoints and resets (O47 to O50) -/

namespace Sys2Proof.Machine

open Sys2Proof

/-! ## Operations that leave the role -/

theorem sendFrame_role (f : Frame) (s : State) : (sendFrame f s).role = s.role := (congrArg Outline.role (outline_sendFrame f s) :)

theorem sendClosed_role (s : State) : (sendClosed s).role = s.role := (congrArg Outline.role (outline_sendClosed s) :)

theorem denyConflict_role (session : Byte) (s : State) : (denyConflict session s).role = s.role :=
  (congrArg Outline.role (outline_denyConflict session s) :)

theorem heard_role (s : State) : (heard s).role = s.role := (congrArg State.role (heard_frame s) :)

theorem endLeaving_role (s : State) : (endLeaving s).role = s.role := enterLinkState_role _ _

theorem leaveLink_role (reason : PartReason) (s : State) : (leaveLink reason s).role = s.role := by
  obtain ⟨hrole, -, -⟩ := leaveLink_frame reason s
  exact hrole

theorem acceptJoin_role (session : Byte) (s : State) : (acceptJoin session s).role = s.role :=
  (congrArg Outline.role (outline_acceptJoin session s) :)

theorem reportCompletion_role (leavesHold : Bool) (s : State) : (reportCompletion leavesHold s).role = s.role :=
  (congrArg Outline.role (outline_reportCompletion leavesHold s) :)

theorem discardRecord_role (s : State) : (discardRecord s).role = s.role := (congrArg Outline.role (outline_discardRecord s) :)

theorem enterRecovery_role (s : State) : (enterRecovery s).role = s.role := (congrArg Outline.role (enterRecovery_outline s) :)

theorem grantUpstream_role (a : Access) (forced : Bool) (s : State) : (grantUpstream a forced s).role = s.role := by
  unfold grantUpstream
  (repeat' split) <;> rfl

theorem grantInternal_role (r : InternalRequest) (s : State) : (grantInternal r s).role = s.role := by
  unfold grantInternal
  (repeat' split) <;> rfl

theorem grant_role (s : State) : (grant s).role = s.role := by
  unfold grant
  split
  · rfl
  split
  · rfl
  · exact grantUpstream_role ..
  · exact grantInternal_role ..
  · split
    · exact grantUpstream_role ..
    · exact grantInternal_role ..

theorem completeUpstream_role (s : State) : (completeUpstream s).role = s.role := by
  unfold completeUpstream
  split <;> rfl

theorem completeRead_role (word : WordData) (s : State) : (completeRead word s).role = s.role :=
  (congrArg Outline.role (outline_completeRead word s) :)

theorem expireStall_role (s : State) : (expireStall s).role = s.role := by
  unfold expireStall
  split <;> rfl

theorem changeWindow_role (w : WindowId) (new : Window) (s : State) : (changeWindow w new s).role = s.role :=
  (congrArg Outline.role (outline_changeWindow w new s) :)

theorem present_role (a : Access) (s : State) : (present a s).role = s.role := by
  unfold present
  (repeat' split) <;> rfl

theorem retransmit_role (s : State) : (retransmit s).role = s.role := by
  unfold retransmit
  split <;> rfl

theorem transmitFirst_role (s : State) : (transmitFirst s).role = s.role := by
  unfold transmitFirst
  split
  · split
    · dsimp only [transmit]
      split <;> rfl
    · rfl
  · rfl

theorem decideRec_role (s : State) : (decideRec s).role = s.role := by
  unfold decideRec
  split
  · split
    · exact transmitFirst_role s
    · exact retransmit_role s
  · rfl

theorem expireRejoin_role (s : State) : (expireRejoin s).role = s.role := by
  unfold expireRejoin
  split
  · exact (enterLinkState_role ..).trans (sendFrame_role ..)
  · rfl

theorem expireQuiet_role (s : State) : (expireQuiet s).role = s.role := by
  unfold expireQuiet
  split
  · dsimp only
    split
    · exact enterRecovery_role _
    · rfl
  all_goals rfl

theorem expireSilence_role (s : State) : (expireSilence s).role = s.role := by
  unfold expireSilence
  split
  · exact enterLinkState_role ..
  · rfl

theorem enableLink_role (s : State) : (enableLink s).role = s.role := by
  unfold enableLink
  dsimp only
  split
  · exact enterLinkState_role ..
  · rfl

theorem receiveAccept_role (session : Byte) (s : State) : (receiveAccept session s).role = s.role := by
  unfold receiveAccept
  split
  · exact sendClosed_role s
  · split <;> rfl
  · exact heardOther_role s
  · exact heardOther_role s
  all_goals rfl

theorem deniedJoin_role (reason : DenyReason) (s : State) : (deniedJoin reason s).role = s.role := by
  unfold deniedJoin
  cases reason <;> exact enterLinkState_role ..

theorem receiveDeny_role (session : Byte) (reason : DenyReason) (s : State) : (receiveDeny session reason s).role = s.role := by
  unfold receiveDeny
  split
  · split
    · exact deniedJoin_role reason s
    · rfl
  · exact heardOther_role s
  · exact heardOther_role s
  all_goals rfl

/-! ## A FENCED part (R136) -/

section Fenced

variable {s : State} (hr : s.role = .fenced)
include hr

theorem loseLink_fenced (reason : LossReason) (peer : Option PartReason) : (loseLink reason peer s).role = .fenced := by
  rw [loseLink, endAssociation_standbySide _ _ (by rw [hr]; rfl)]
  exact (enterLinkState_role ..).trans hr

theorem leaveAssociation_fenced (reason : PartReason) : (leaveAssociation reason s).role = .fenced := by
  rw [leaveAssociation, endAssociation_standbySide _ _ (by rw [hr]; rfl)]
  exact (leaveLink_role ..).trans hr

theorem queueEmptied_fenced : queueEmptied s = s := by rw [queueEmptied, hr]

theorem completeRecord_fenced : (completeRecord s).role = .fenced := by
  unfold completeRecord
  extract_lets rest leavesHold _ done told
  have htold : told.role = .fenced := by
    unfold told
    split
    · exact (reportCompletion_role leavesHold done).trans hr
    · exact hr
  split
  · rw [queueEmptied_fenced htold]
    exact htold
  · exact htold

theorem takeRecord_fenced : (takeRecord s).role = .fenced := by
  have hwrite : (completeRecord (setCause .mapMismatch s)).role = .fenced := completeRecord_fenced (s := setCause .mapMismatch s) hr
  unfold takeRecord
  split
  · exact hr
  split
  · split
    · split
      · exact hr
      · exact completeRecord_fenced hr
    · exact hwrite
  · split
    · split
      · exact hr
      · exact completeRecord_fenced hr
    · exact hwrite
  · exact completeRecord_fenced hr
  · rw [if_neg (by rw [hr]; nofun)]
    exact completeRecord_fenced hr

theorem takeNext_fenced : (takeNext s).role = .fenced := by
  unfold takeNext
  split
  · exact takeRecord_fenced hr
  · exact hr

theorem completeApplyWord_fenced : (completeApplyWord s).role = .fenced := by
  unfold completeApplyWord
  split
  · split
    · exact hr
    · exact completeRecord_fenced hr
  · exact hr

theorem completeAccess_fenced : (completeAccess s).role = .fenced := by
  unfold completeAccess
  split
  · exact hr
  next p _ =>
    extract_lets freed
    have hfreed : freed.role = .fenced := hr
    split
    · exact (completeUpstream_role _).trans hfreed
    · exact (completeRead_role _ _).trans hfreed
    · exact completeApplyWord_fenced hfreed
    · exact hfreed

theorem expireReply_fenced : (expireReply s).role = .fenced := by
  unfold expireReply
  split
  · exact hr
  split
  · exact (enterRecovery_role s).trans hr
  · split
    · exact (sendFrame_role ..).trans hr
    · exact loseLink_fenced hr ..
  · split
    · exact (sendFrame_role ..).trans hr
    · exact (enterLinkState_role ..).trans hr
  · exact (endLeaving_role s).trans hr
  all_goals exact hr

theorem expireHandover_fenced : expireHandover s = s := if_neg (by simp [hr])

theorem answerJoin_fenced (session : Byte) : (answerJoin session s).role = .fenced := by
  rw [answerJoin, hr]
  exact (sendFrame_role ..).trans hr

theorem receiveJoin_fenced (session : Byte) : (receiveJoin session s).role = .fenced := by
  have hassoc : (if s.role.activeSide then denyConflict session (heard s)
      else if s.link.acceptRepeat && session == s.link.session then sendFrame (.accept session) (heard s)
      else answerJoin session (enterLinkState .idle (standbyLoss .peerRejoin none s))).role = .fenced := by
    rw [hr, if_neg nofun]
    split
    · exact (sendFrame_role ..).trans ((heard_role s).trans hr)
    · exact answerJoin_fenced ((enterLinkState_role .idle (standbyLoss .peerRejoin none s)).trans hr) session
  unfold receiveJoin
  split
  · exact answerJoin_fenced hr session
  · exact (denyConflict_role ..).trans hr
  · exact hassoc
  · exact hassoc
  all_goals exact hr

theorem receivePart_fenced (reason : PartReason) : (receivePart reason s).role = .fenced := by
  have hclosed := (sendClosed_role s).trans hr
  unfold receivePart
  split
  · exact hclosed
  · exact hclosed
  · exact loseLink_fenced hclosed ..
  · exact loseLink_fenced hclosed ..
  all_goals exact hr

theorem receiveClosed_fenced : (receiveClosed s).role = .fenced := by
  unfold receiveClosed
  split
  · exact loseLink_fenced hr ..
  · exact loseLink_fenced hr ..
  · exact (endLeaving_role s).trans hr
  all_goals exact hr

theorem queueRecord_fenced (tseq : Byte) (r : Record) : (queueRecord tseq r s).role = .fenced := by
  unfold queueRecord
  extract_lets queue _ taken _ flowed
  have hflowed : flowed.role = .fenced := by
    unfold flowed
    split
    · exact (sendFrame_role ..).trans hr
    · exact hr
  split
  · exact takeRecord_fenced hflowed
  · exact hflowed

theorem receiveRec_fenced (tseq : Byte) (r : Record) : (receiveRec tseq r s).role = .fenced := by
  have hheard := (heardOther_role s).trans hr
  unfold receiveRec
  split
  · split
    · exact (sendClosed_role s).trans hr
    · exact (sendClosed_role s).trans hr
    · dsimp only
      split
      · exact hheard
      split
      · exact queueRecord_fenced hheard ..
      · exact (discardRecord_role _).trans hheard
    · exact hheard
    all_goals exact hr
  · unfold discardFrame
    split <;> exact hr

theorem receiveAsk_fenced : (receiveAsk s).role = .fenced := by
  have hheard := (heardOther_role s).trans hr
  unfold receiveAsk
  split
  · exact (sendClosed_role s).trans hr
  · exact (sendClosed_role s).trans hr
  · dsimp only
    rw [hheard, if_neg nofun]
    exact (sendFrame_role ..).trans hheard
  · exact hheard
  all_goals exact hr

theorem receiveAck_fenced (aseq : Byte) (final hold swap : Bool) : (receiveAck aseq final hold swap s).role = .fenced := by
  have hheard := (heardOther_role s).trans hr
  have hside : ¬s.role.activeSide = true := by rw [hr]; nofun
  unfold receiveAck
  split
  · exact (sendClosed_role s).trans hr
  · exact (sendClosed_role s).trans hr
  · rw [if_neg hside]
    exact hheard
  · rw [if_neg hside]
    exact hheard
  all_goals exact hr

theorem receiveResend_fenced (aseq rseq : Byte) (hold : Bool) : (receiveResend aseq rseq hold s).role = .fenced := by
  have hheard := (heardOther_role s).trans hr
  have hside : ¬s.role.activeSide = true := by rw [hr]; nofun
  unfold receiveResend
  split
  · exact (sendClosed_role s).trans hr
  · exact (sendClosed_role s).trans hr
  · rw [if_neg hside]
    exact hheard
  · rw [if_neg hside]
    exact hheard
  all_goals exact hr

theorem disableLink_fenced : (disableLink s).role = .fenced := by
  unfold disableLink
  dsimp only
  split
  · exact hr
  · exact hr
  · exact (enterLinkState_role ..).trans hr
  · exact (leaveLink_role ..).trans hr
  · exact leaveAssociation_fenced (s := { s with link.enable := false }) hr _
  · exact leaveAssociation_fenced (s := { s with link.enable := false }) hr _

end Fenced

/-- The events that take a part out of FENCED. -/
def LeavesFenced (c : Instr) : Prop :=
  c = .setRole 0x00#8 ∨ c = .setRole 0x02#8 ∨ (∃ force, c = .promote force) ∨ c = .softReset ∨ c = .resetPin

theorem Event.fenced {c : Instr} {s u : State} (h : Event s c u) (hr : s.role = .fenced) : u.role = .fenced ∨ LeavesFenced c := by
  have hno {P : Prop} {x : Role} (hrole : s.role = x) (hx : x ≠ .fenced) : P := absurd (hrole.symm.trans hr) hx
  cases h with
  | grant => exact .inl ((grant_role s).trans hr)
  | completion => exact .inl (completeAccess_fenced hr)
  | recordTaken => exact .inl (takeNext_fenced hr)
  | stallExpiry => exact .inl ((expireStall_role s).trans hr)
  | rejoinExpiry => exact .inl ((expireRejoin_role s).trans hr)
  | replyExpiry => exact .inl (expireReply_fenced hr)
  | quietExpiry => exact .inl ((expireQuiet_role s).trans hr)
  | silenceExpiry => exact .inl ((expireSilence_role s).trans hr)
  | handoverExpiry => exact .inl (by rw [expireHandover_fenced hr, hr])
  | joinFrame session => exact .inl (receiveJoin_fenced hr session)
  | acceptFrame session => exact .inl ((receiveAccept_role session s).trans hr)
  | denyFrame session reason => exact .inl ((receiveDeny_role session reason s).trans hr)
  | partFrame reason => exact .inl (receivePart_fenced hr reason)
  | closedFrame => exact .inl (receiveClosed_fenced hr)
  | recFrame tseq r => exact .inl (receiveRec_fenced hr tseq r)
  | ackFrame aseq final hold swap => exact .inl (receiveAck_fenced hr aseq final hold swap)
  | resendFrame aseq rseq hold => exact .inl (receiveResend_fenced hr aseq rseq hold)
  | askFrame => exact .inl (receiveAsk_fenced hr)
  | windowWritten w new => exact .inl ((changeWindow_role w new s).trans hr)
  | rangeMarked => exact .inl hr
  | activated hrole => exact hno hrole nofun
  | stoodBy htarget => exact .inr (.inr (.inl (by rw [htarget])))
  | unfenced htarget => exact .inr (.inl (by rw [htarget]))
  | withdrawn hrole => exact hrole.elim (hno · nofun) (hno · nofun)
  | promotedFenced => exact .inr (.inr (.inr (.inl ⟨_, rfl⟩)))
  | promoted hrole => exact hno hrole nofun
  | handedOver hrole => exact hno hrole nofun
  | linkEnabled => exact .inl ((enableLink_role s).trans hr)
  | linkDisabled => exact .inl (disableLink_fenced hr)
  | checkpointOpened i hrole =>
    rw [hr] at hrole
    cases hrole
  | pathWritten => exact .inl hr

theorem Unsettled.fenced {c : Instr} {s u : State} (h : Unsettled s c u) (hr : s.role = .fenced) :
    u.role = .fenced ∨ LeavesFenced c := by
  cases h with
  | presented a => exact .inl ((present_role a s).trans hr)
  | recDecided => exact .inl ((decideRec_role s).trans hr)
  | linkWritten => exact .inl hr
  | softReset => exact .inr (.inr (.inr (.inr (.inl rfl))))
  | pinReset => exact .inr (.inr (.inr (.inr (.inr rfl))))

theorem DeskOnly.role {s t : State} (h : DeskOnly s t) : t.role = s.role := (congrArg State.role h).trans rfl

/-- Settles O47, by what each command can do. -/
theorem fencedIsLeftByCommandAlone : Obligations.FencedIsLeftByCommandAlone := by
  intro c s t hr ht hleft
  cases exec_hasEffect c s t ht with
  | desk h => exact absurd (h.role.trans hr) hleft
  | event he h =>
    refine (he.fenced hr).resolve_left fun hu => hleft ?_
    exact h.role.trans ((settle_role ..).trans hu)
  | unsettled hu h => exact (hu.fenced hr).resolve_left fun hfenced => hleft (h.role.trans hfenced)

/-! ## Checkpoints (R33, R142, R143, R146) -/

theorem exec_checkpoint (tag : Byte) {s : State} (h : s.resetLow = false) : exec (.checkpoint tag) s = .next (checkpoint tag s) :=
  whenLive_high (checkpoint tag) s h

theorem exec_releaseCheckpoint (slot : Byte) {s : State} (h : s.resetLow = false) :
    exec (.releaseCheckpoint slot) s = .next (releaseCheckpoint slot s) :=
  whenLive_high (releaseCheckpoint slot) s h

theorem Body.isTakeover_iff (b : Body) : b.isTakeover = true ↔ b = .takeover := by cases b <;> simp [Body.isTakeover]

theorem takeoverSent_iff (s : State) :
    takeoverSent s = true ↔ ∃ e ∈ s.journal, e.body = .takeover ∧ ∃ q n, e.state = .sent q n := by
  simp only [takeoverSent, List.any_eq_true, Bool.and_eq_true, Body.isTakeover_iff, isSent_iff]

theorem lowestFreeSlot_none {s : State} (h : ∀ i : SlotId, s.slots[i].state ≠ .free) : lowestFreeSlot s = none :=
  List.find?_eq_none.2 fun i _ hi => h i (beq_iff_eq.1 hi)

theorem lowestFreeSlot_some {s : State} {i : SlotId} (hi : s.slots[i].state = .free)
    (hlow : ∀ j : SlotId, j < i → s.slots[j].state ≠ .free) : lowestFreeSlot s = some i := by
  have hfree : (s.slots[i].state == .free) = true := beq_iff_eq.2 hi
  have hbusy (j : SlotId) (hj : j < i) : (s.slots[j].state == .free) = false := beq_false_of_ne (hlow j hj)
  unfold lowestFreeSlot
  match i, hfree, hbusy with
  | 0, hfree, _ => rw [List.find?_cons, hfree]
  | 1, hfree, hbusy => rw [List.find?_cons, hbusy 0 (by decide), List.find?_cons, hfree]
  | 2, hfree, hbusy => rw [List.find?_cons, hbusy 0 (by decide), List.find?_cons, hbusy 1 (by decide), List.find?_cons, hfree]
  | 3, hfree, hbusy =>
    rw [List.find?_cons, hbusy 0 (by decide), List.find?_cons, hbusy 1 (by decide), List.find?_cons, hbusy 2 (by decide),
      List.find?_cons, hfree]

theorem placeMark_pending {s : State} {older : List Entry} (hj : s.journal = older ++ [{ body := .takeover, state := .pending }])
    (e : Entry) : (placeMark e s).journal = older ++ [e, { body := .takeover, state := .pending }] := by
  refine (if_pos ((takeoverPending_iff s).2 ⟨older, hj⟩)).trans ?_
  rw [hj, List.dropLast_concat, List.getLast?_concat, List.append_assoc]
  rfl

theorem placeMark_young {s : State} (hno : ∀ older, s.journal ≠ older ++ [{ body := .takeover, state := .pending }]) (e : Entry) :
    (placeMark e s).journal = s.journal ++ [e] :=
  if_neg fun hc => ((takeoverPending_iff s).1 hc).elim hno

/-- What an accepted CHECKPOINT leaves of slots and journal. -/
theorem openCheckpoint_slot (i : SlotId) (tag : Byte) (s : State) :
    (openCheckpoint i tag s).slots[i] = { state := .opened, tag := tag, taint := !allInSync s } := by
  simp [openCheckpoint, placeMark]

theorem openCheckpoint_other {i j : SlotId} (hj : j ≠ i) (tag : Byte) (s : State) :
    (openCheckpoint i tag s).slots[j] = s.slots[j] := by
  have : i.val ≠ j.val := fun h => hj (Fin.ext h.symm)
  simp [openCheckpoint, placeMark, this]

/-- Settles O48: the checks of R142 in their order, the slot and its MARK, and the release by the slot's state. -/
theorem checkpointCommands : Obligations.CheckpointCommands := by
  refine ⟨fun tag s h => ?opens, fun slot s h hslot => ?noSlot, fun i s h => ⟨fun hi => ?kept, fun hi => ?freed⟩⟩
  case opens =>
    have hset {t : State} (ht : checkpoint tag s = t) : exec (.checkpoint tag) s = .next t := ht ▸ exec_checkpoint tag h
    refine ⟨fun hna hnh => hset (if_pos (Role.activeSide_eq_false_of hna hnh)), fun hr => ?_⟩
    have hside : ¬s.role.activeSide = false := by rw [Role.activeSide_of hr]; nofun
    refine ⟨fun hup hrec => hset ?_, fun hl => ?_⟩
    · have hno : s.link.state.associated = false :=
        Bool.eq_false_iff.2 fun hc => ((LinkState.associated_iff _).1 hc).elim hup hrec
      rw [checkpoint, if_neg hside, if_pos hno, refuse]
    have hassoc : ¬s.link.state.associated = false := by rw [LinkState.associated_of hl]; nofun
    refine ⟨fun hsent => hset ?_, fun hno => ?_⟩
    · rw [checkpoint, if_neg hside, if_neg hassoc, if_pos ((takeoverSent_iff s).2 hsent), refuse]
    have hsent : ¬takeoverSent s = true := fun hc => by
      obtain ⟨e, he, hb, q, n, hs⟩ := (takeoverSent_iff s).1 hc
      exact hno e he hb q n hs
    refine ⟨fun hnone => hset ?_, fun i hi hlow hroom => ⟨openCheckpoint i tag s, hset ?_, rfl, ?_, ?_, ?_, ?_, ?_, ?_⟩⟩
    · rw [checkpoint, if_neg hside, if_neg hassoc, if_neg hsent]
      obtain hslots | hjournal := hnone
      · rw [lowestFreeSlot_none hslots, refuse]
      · have hfull : freeEntries s = 0 := Nat.sub_eq_zero_of_le hjournal
        split
        · rw [refuse]
        · rw [if_pos hfull, refuse]
    · have hsome : ¬freeEntries s = 0 := Nat.sub_ne_zero_of_lt hroom
      rw [checkpoint, if_neg hside, if_neg hassoc, if_neg hsent, lowestFreeSlot_some hi hlow]
      exact if_neg hsome
    · rw [openCheckpoint_slot]
    · rw [openCheckpoint_slot]
    · rw [openCheckpoint_slot, Bool.not_eq_true', ← Bool.not_eq_true, allInSync_iff]
      simp only [not_forall, exists_prop]
    · exact fun j hj => openCheckpoint_other hj tag s
    · exact fun older hj => placeMark_pending (s := { s with slots := _ }) hj _
    · exact fun hyoung => placeMark_young (s := { s with slots := _ }) hyoung _
  case noSlot =>
    rw [exec_releaseCheckpoint slot h, releaseCheckpoint, (slotOf_eq_none_iff slot).2 hslot, refuse]
  case kept =>
    rw [exec_releaseCheckpoint _ h, releaseCheckpoint, slotOf_ofNat]
    obtain hi | hi := hi <;> simp only [hi, refuse]
  case freed =>
    rw [exec_releaseCheckpoint _ h, releaseCheckpoint, slotOf_ofNat]
    obtain hi | hi := hi <;> simp only [hi, accept, Slot.reset]

/-! ## Resets (R160, R161, R165, R176) -/

theorem dropInternal_eq (p : PortAccess) : dropInternal p = if p.owner = .upstream then p else { p with owner := .dropped } := by
  unfold dropInternal
  cases p.owner <;> rfl

/-- Settles O49: the re-presentation written out by the state of the upstream access. -/
theorem softResetCommand : Obligations.SoftReset := by
  intro s h
  have hport : s.port.map dropInternal = s.port.map fun p => if p.owner = .upstream then p else { p with owner := .dropped } :=
    congrArg (Option.map · s.port) (funext dropInternal_eq)
  show execSoftReset s = _
  rw [execSoftReset, whenLive_high _ s h, accept, softReset, representHeld_eq, hport]
  simp only [h]
  cases s.upstream <;> rfl

theorem memoryAfterAbandon_other {s : State} {p : PortAccess} (hp : s.port = some p) (hmem : memoryCanonical s = true) {k : Nat}
    (hk : k / 4 ≠ p.access.addr.toNat ∨ p.access.kind = .read) :
    Memory.read (memoryAfterAbandon s) k = Memory.read s.mem k := by
  rw [memoryAfterAbandon, hp]
  dsimp only
  split
  next hwrite =>
    obtain ⟨-, hother⟩ := read_memoryAfter hmem hwrite
    split
    · exact hother k (hk.resolve_right (by rw [hwrite]; nofun))
    · rfl
  next => rfl

theorem exec_low {c : Instr} {s : State} (h : s.resetLow = true) (hpin : c ≠ .resetPin) (hrelease : ∀ csLow, c ≠ .resetRelease csLow) :
    exec c s = .next s := by
  cases c
  case resetPin => exact absurd rfl hpin
  case resetRelease csLow => exact absurd rfl (hrelease csLow)
  all_goals exact congrArg Host.Outcome.next (if_pos h)

/-- Settles O50: RESET# gives each field its value, and while it is low every other command answers the state it found. -/
theorem pinResets : Obligations.PinResets := by
  refine ⟨fun s => ⟨pinReset s, rfl, ?fields⟩, fun csLow s h => congrArg Host.Outcome.next (if_pos h), fun c s h => exec_low h⟩
  refine ⟨rfl, rfl, rfl, rfl, rfl, rfl, rfl, rfl, rfl, rfl, rfl, rfl, rfl, rfl, rfl, rfl, rfl, rfl, rfl, rfl, rfl, rfl, rfl, rfl, rfl, rfl,
    rfl, rfl, rfl, rfl, rfl, rfl, rfl, rfl, rfl, rfl, rfl, rfl, fun w => ?stats, rfl, rfl, rfl, rfl, rfl, rfl, fun hp => ?mem,
    fun p hp hmem k hk => memoryAfterAbandon_other hp hmem hk⟩
  case stats => simp [pinReset, State.reset, WindowStats.reset]
  case mem =>
    show memoryAfterAbandon s = s.mem
    rw [memoryAfterAbandon, hp]

end Sys2Proof.Machine

/-! # The standby side (O28 to O30) -/

namespace Sys2Proof.Machine

open Sys2Proof

/-! ## Frames heard in an association (R77, R102) -/

theorem heardOther_activeSide {s : State} (hassoc : s.link.state.associated = true) (hside : s.role.activeSide = true) :
    heardOther s = { s with link.acceptRepeat := false, link.quietTimer := quietStarted s.linkParams } := by
  rw [heardOther, if_pos hassoc, heard_activeSide hassoc hside]

theorem heardOther_standbyUp {s : State} (hup : s.link.state = .up) (hside : s.role.activeSide = false) :
    heardOther s = { s with link.acceptRepeat := false, standby.silenceTimer := silenceStarted s.linkParams } := by
  rw [heardOther, if_pos (by rw [hup]; rfl), heard_standbyUp hup hside]

/-! ## REC and ASK (R92, R93, R99, R100, R138) -/

/-- A record joins the queue, with the report it may decide, before the engine takes it (R92, R100). -/
def joinQueue (tseq : Byte) (r : Record) (s : State) : State :=
  if s.standby.queue.length = 11 ∧ s.standby.holding = false then
    sendAck false { s with
      standby.queue := s.standby.queue ++ [{ tseq := tseq, record := r }], standby.receiveNext := s.standby.receiveNext + 1
      standby.resendException := false, standby.holding := true }
  else { s with
    standby.queue := s.standby.queue ++ [{ tseq := tseq, record := r }], standby.receiveNext := s.standby.receiveNext + 1
    standby.resendException := false }

theorem queueRecord_eq (tseq : Byte) (r : Record) (s : State) :
    queueRecord tseq r s =
      if s.standby.queue.isEmpty && s.standby.engine == .idle then takeRecord (joinQueue tseq r s) else joinQueue tseq r s := by
  have hlength : (s.standby.queue ++ [({ tseq := tseq, record := r } : Received)]).length = Config.holdAt ↔ s.standby.queue.length = 11 := by
    rw [List.length_append]
    exact Nat.add_right_cancel_iff
  simp only [queueRecord, hlength]
  rfl

theorem receiveRec_standbyUp {s : State} {r : Record} (tseq : Byte) (hv : r.valid = true) (hup : s.link.state = .up)
    (hside : s.role.activeSide = false) :
    receiveRec tseq r s =
      if tseq = (heardOther s).standby.receiveNext ∧ (heardOther s).standby.queue.length < 16 then queueRecord tseq r (heardOther s)
      else discardRecord (heardOther s) := by
  rw [receiveRec, if_pos hv, hup]
  exact if_neg (by rw [heardOther_role, hside]; nofun)

theorem receiveRec_activeSide {s : State} {r : Record} (tseq : Byte) (hv : r.valid = true)
    (hl : s.link.state = .up ∨ s.link.state = .recovery) (hside : s.role.activeSide = true) :
    receiveRec tseq r s = heardOther s := by
  rw [receiveRec, if_pos hv]
  obtain hl | hl := hl <;> rw [hl]
  exact if_pos (by rw [heardOther_role, hside])

theorem receiveAsk_standbyUp {s : State} (hup : s.link.state = .up) (hside : s.role.activeSide = false) :
    receiveAsk s = sendAck true (heardOther s) := by
  rw [receiveAsk, hup]
  exact if_neg (by rw [heardOther_role, hside]; nofun)

theorem heardOther_keptSwap (s : State) : (heardOther s).keptSwap = s.keptSwap := (congrArg State.keptSwap (heardOther_frame s) :)

theorem receiveAsk_plain {s : State} (hl : s.link.state = .up ∨ s.link.state = .recovery) (hside : s.role.activeSide = true)
    (hkept : s.keptSwap = none ∨ s.link.state = .recovery) : receiveAsk s = heardOther s := by
  obtain hup | hrec := hl
  · have hnone : (heardOther s).keptSwap = none :=
      (heardOther_keptSwap s).trans (hkept.resolve_right (by rw [hup]; nofun))
    rw [receiveAsk, hup]
    refine (if_pos (by rw [heardOther_role, hside])).trans ?_
    rw [hnone]
  · rw [receiveAsk, hrec]

theorem receiveAsk_kept {s : State} {aseq : Byte} (hup : s.link.state = .up) (hside : s.role.activeSide = true)
    (hkept : s.keptSwap = some aseq) : receiveAsk s = sendFrame (.ack aseq true false true) (heardOther s) := by
  rw [receiveAsk, hup]
  refine (if_pos (by rw [heardOther_role, hside])).trans ?_
  rw [heardOther_keptSwap, hkept]

/-- Settles O28, by side; the frame heard restarts the side's timer first. -/
theorem recordsAndAsks : Obligations.RecordsAndAsks := by
  intro q r s heardState h hv
  refine ⟨fun hup hna hnh hheard => ?standbySide, fun hl hside hheard => ?activeSide⟩
  case standbySide =>
    have hside := Role.activeSide_eq_false_of hna hnh
    have hthis : heardOther s = heardState := by rw [heardOther_standbyUp hup hside, silenceStarted_eq, hheard]
    have hrec := receiveRec_standbyUp q hv hup hside
    have hask := receiveAsk_standbyUp hup hside
    rw [hthis, hheard] at hrec hask
    refine ⟨fun hq hroom => ⟨joinQueue q r heardState, fun hlen hno => ?_, fun hother => ?_, fun hbusy => ?_, fun hempty hidle => ?_⟩,
      fun hno => ⟨fun hex => ?_, fun hex => ?_⟩, next_settled (f := receiveAsk) h (by rw [hask, hheard]; rfl)⟩
    · rw [hheard, hq]
      exact if_pos ⟨hlen, hno⟩
    · rw [hheard, hq]
      refine if_neg fun hc => ?_
      obtain ⟨hlen, hno⟩ := hc
      exact hother.elim (· hlen) fun ht => by rw [ht] at hno; cases hno
    all_goals refine next_settled (f := receiveRec q r) h ?_
    · rw [hrec, if_pos ⟨hq, hroom⟩, queueRecord_eq, if_neg, hheard]
      rw [Bool.and_eq_true, List.isEmpty_iff, beq_iff_eq]
      exact fun ⟨hqueue, hengine⟩ => hbusy.elim (· hqueue) (· hengine)
    · rw [hrec, if_pos ⟨hq, hroom⟩, queueRecord_eq, if_pos, hheard]
      rw [Bool.and_eq_true, List.isEmpty_iff, beq_iff_eq]
      exact ⟨hempty, hidle⟩
    all_goals rw [hrec, if_neg fun hc => hno.elim (· hc.1) (Nat.not_le.2 hc.2)]
    · rw [hheard]
      exact if_pos hex
    · rw [hheard]
      refine (if_neg (by rw [hex]; nofun)).trans ?_
      rfl
  case activeSide =>
    have hside := Role.activeSide_of hside
    have hthis : heardOther s = heardState := by
      rw [heardOther_activeSide (LinkState.associated_of hl) hside, quietStarted_eq, hheard]
    refine ⟨next_settled (f := receiveRec q r) h ?_, fun hkept => next_settled (f := receiveAsk) h ?_,
      fun aseq hkept hup => next_settled (f := receiveAsk) h ?_⟩
    · rw [receiveRec_activeSide q hv hl hside, hthis]
    · rw [receiveAsk_plain hl hside hkept, hthis]
    · rw [receiveAsk_kept hup hside hkept, hthis]

/-! ## The completion of a record (R97 to R101) -/

/-- The oldest record has left the queue (R97, R100). -/
def recordDone (s : State) : State :=
  { s with
    standby.queue := s.standby.queue.tail, standby.appliedNext := s.standby.appliedNext + 1, standby.engine := .idle
    standby.holding := s.standby.holding && decide (s.standby.queue.tail.length ≠ 4) }

theorem completeRecord_eq (s : State) :
    completeRecord s =
      if s.standby.queue.tail.isEmpty then
        queueEmptied (if standbyUp s then
          reportCompletion (s.standby.holding && s.standby.queue.tail.length == 4) (recordDone s) else recordDone s)
      else if standbyUp s then
        reportCompletion (s.standby.holding && s.standby.queue.tail.length == 4) (recordDone s) else recordDone s := by
  have hhold (b : Bool) (n : Nat) : (b && !(b && n == 4)) = (b && decide (n ≠ 4)) := by
    cases b
    · rfl
    · exact Bool.eq_iff_iff.2 (by simp)
  rw [completeRecord]
  simp only [hhold]
  rfl

theorem queueEmptied_standbyUp {s : State} (hup : s.link.state = .up) (hr : s.role = .standby) : queueEmptied s = s := by
  rw [queueEmptied, hr]
  dsimp only
  split
  · exact if_neg (by rw [hup]; nofun)
  · rfl

theorem reportCompletion_link_state (leavesHold : Bool) (s : State) : (reportCompletion leavesHold s).link.state = s.link.state :=
  (congrArg Outline.link (outline_reportCompletion leavesHold s) :)

/-- In UP on the standby side a completion reports, and nothing waits for the queue to be empty (R97, R98). -/
theorem completeRecord_standbyUp {s : State} (hup : s.link.state = .up) (hr : s.role = .standby) :
    completeRecord s = reportCompletion (s.standby.holding && s.standby.queue.tail.length == 4) (recordDone s) := by
  have htold : standbyUp s = true := (standbyUp_iff s).2 ⟨hup, by rw [hr]; rfl⟩
  rw [completeRecord_eq, if_pos htold]
  split
  · exact queueEmptied_standbyUp ((reportCompletion_link_state ..).trans hup) ((reportCompletion_role ..).trans hr)
  · rfl

theorem completeRecord_apart {s : State} (hup : s.link.state ≠ .up) :
    completeRecord s = if s.standby.queue.tail.isEmpty then queueEmptied (recordDone s) else recordDone s := by
  have htold : ¬standbyUp s = true := fun hc => hup ((standbyUp_iff s).1 hc).1
  rw [completeRecord_eq, if_neg htold]

theorem reportCompletion_resend {s : State} (he : s.standby.resendException = true) :
    reportCompletion true s = sendFrame (.resend s.standby.appliedNext s.standby.receiveNext s.standby.holding)
      { s with standby.sinceReport := 0, linkStats.resendSent := s.linkStats.resendSent + 1 } :=
  if_pos he

theorem reportCompletion_ack {s : State} (he : s.standby.resendException = false) :
    reportCompletion true s = sendFrame (.ack s.standby.appliedNext false s.standby.holding false)
      { s with standby.sinceReport := 0 } :=
  if_neg (by rw [he]; nofun)

theorem reportCompletion_due {s : State} (hdue : s.standby.queue = [] ∨ 3 ≤ s.standby.sinceReport) :
    reportCompletion false s = sendFrame (.ack s.standby.appliedNext false s.standby.holding false)
      { s with standby.sinceReport := 0 } := by
  refine if_pos ?_
  rw [Bool.or_eq_true, List.isEmpty_iff, decide_eq_true_iff]
  exact hdue.imp id Nat.succ_le_succ

theorem reportCompletion_counts {s : State} (hqueue : s.standby.queue ≠ []) (hfew : s.standby.sinceReport < 3) :
    reportCompletion false s = { s with standby.sinceReport := s.standby.sinceReport + 1 } := by
  refine if_neg ?_
  rw [Bool.or_eq_true, List.isEmpty_iff, decide_eq_true_iff]
  exact fun hc => hc.elim hqueue fun hle => Nat.not_le.2 hfew (Nat.le_of_succ_le_succ hle)

/-- Settles O30, by whether the part reports, then by what the report is. -/
theorem recordCompletes : Obligations.RecordCompletes := by
  intro r rest s t hqueue ht
  have htail : s.standby.queue.tail = rest := by rw [hqueue]; rfl
  have hdone : recordDone s = t := by rw [recordDone, htail, ht]
  refine ⟨fun hup hr => ?reports, fun hup hr => ?apart⟩
  case reports =>
    have hcomplete := completeRecord_standbyUp hup hr
    rw [htail, hdone] at hcomplete
    have hnext : t.standby.appliedNext = s.standby.appliedNext + 1 := by rw [ht]
    have hreceive : t.standby.receiveNext = s.standby.receiveNext := by rw [ht]
    have hexception : t.standby.resendException = s.standby.resendException := by rw [ht]
    have hrest : t.standby.queue = rest := by rw [ht]
    have hcount : t.standby.sinceReport = s.standby.sinceReport := by rw [ht]
    have hstats : t.linkStats = s.linkStats := by rw [ht]
    have hstill (hno : ¬(s.standby.holding = true ∧ rest.length = 4)) :
        t.standby.holding = s.standby.holding ∧ completeRecord s = reportCompletion false t := by
      have hleaves : (s.standby.holding && rest.length == 4) = false := by
        rw [Bool.eq_false_iff, ne_eq, Bool.and_eq_true, beq_iff_eq]
        exact hno
      refine ⟨?_, by rw [hcomplete, hleaves]⟩
      rw [ht]
      cases hhold : s.standby.holding with
      | false => rfl
      | true => exact decide_eq_true fun hfour => hno ⟨hhold, hfour⟩
    have hleaves (hhold : s.standby.holding = true) (hfour : rest.length = 4) :
        t.standby.holding = false ∧ completeRecord s = reportCompletion true t := by
      refine ⟨?_, by rw [hcomplete, hhold, hfour]; rfl⟩
      rw [ht, hfour]
      exact Bool.and_false _
    refine ⟨fun hhold hfour hex => ?_, fun hhold hfour hex => ?_, fun hno hdue => ?_, fun hno hsome hfew => ?_⟩
    · obtain ⟨hready, hreport⟩ := hleaves hhold hfour
      rw [hreport, reportCompletion_resend (hexception.trans hex), hnext, hreceive, hready, hstats]
    · obtain ⟨hready, hreport⟩ := hleaves hhold hfour
      rw [hreport, reportCompletion_ack (hexception.trans hex), hnext, hready]
    · obtain ⟨hsame, hreport⟩ := hstill hno
      rw [hreport, reportCompletion_due (by rw [hrest, hcount]; exact hdue), hnext, hsame]
    · obtain ⟨-, hreport⟩ := hstill hno
      rw [hreport, reportCompletion_counts (by rw [hrest]; exact hsome) (by rw [hcount]; exact hfew), hcount]
  case apart =>
    have hcomplete := completeRecord_apart hup
    rw [htail, hdone] at hcomplete
    have hrole : t.role = s.role := by rw [ht]
    have hlink : t.link = s.link := by rw [ht]
    have hempty (hrest : rest = []) : completeRecord s = queueEmptied t := by
      rw [hcomplete, hrest]
      rfl
    refine ⟨fun hrest => ?_, fun hrest hr => ?_, fun hrest hr hno => ?_, fun session hrest hr hidle hd => ?_⟩
    · rw [hcomplete, if_neg fun he => hrest (List.isEmpty_iff.1 he)]
    · rw [hempty hrest, queueEmptied, hrole, hr]
    · rw [hempty hrest, queueEmptied, hrole, hr, hlink]
      dsimp only
      obtain hno | hno := hno
      · rw [hno]
      · split
        · exact if_neg hno
        · rfl
    · rw [hempty hrest, queueEmptied, hrole, hr, hlink, hd]
      exact if_pos hidle

/-! ## A record taken (R95, R137) -/

/-- The engine starts a record with its first word (R95, R96). -/
def startRecord (r : Record) (s : State) : State :=
  match nextWord r 0 with
  | some o => { s with standby.engine := .applying o }
  | none => completeRecord s

theorem takeRecord_line {s : State} {r : Received} {rest : List Received} {line : LineNo} (hq : s.standby.queue = r :: rest)
    (hline : recordLine r.record = some line) :
    takeRecord s = if (owner s.windows (64 * line.toNat)).isSome then startRecord r.record s
      else completeRecord (setCause .mapMismatch s) := by
  rw [takeRecord, hq]
  cases hr : r.record with
  | write l bytes | fill l data =>
    rw [hr] at hline
    cases hline
    dsimp only
    rw [hr]
    rfl
  | mark | takeover =>
    rw [hr] at hline
    cases hline

theorem answerDeferred_setStandby (s : State) (x : Standby) :
    answerDeferred { s with standby := x } = { answerDeferred s with standby := x } := by
  unfold answerDeferred
  dsimp only
  split
  · rw [sendFrame_eq, sendFrame_eq]
  · rw [sendFrame_eq, sendFrame_eq]
  · rw [denyConflict, sendFrame_eq, denyConflict, sendFrame_eq]
    rfl
  · rfl

theorem changeRole_setStandby (new : Role) (s : State) (x : Standby) :
    changeRole new { s with standby := x } = { changeRole new s with standby := x } := by
  have hassigned : assigned new { s with standby := x } = { assigned new s with standby := x } := by
    simp only [assigned, representHeld_eq]
    rfl
  rw [changeRole_eq, hassigned, answerDeferred_setStandby, changeRole_eq]

theorem sendFrame_setStandby (f : Frame) (s : State) (x : Standby) :
    sendFrame f { s with standby := x } = { sendFrame f s with standby := x } := by
  rw [sendFrame_eq, sendFrame_eq]

/-- Settles O29: by the oldest record, and a TAKEOVER in STANDBY by the link state. -/
theorem recordTaken : Obligations.RecordTaken := by
  refine ⟨fun r rest s h hengine hq => ?_, fun x s h hr hengine hx hq => ?_⟩
  · have htake {t : State} (ht : takeRecord s = t) : exec .applyTakeRecord s = .next (settle s t) :=
      next_settled (f := takeNext) h ((if_pos hengine).trans ht)
    refine ⟨fun line w o hline hown hnext => htake ?_, fun line hline hown => htake ?_, fun tag slot hmark => htake ?_,
      fun htakeover hr => htake ?_⟩
    · rw [takeRecord_line hq hline, hown, startRecord, hnext]
      rfl
    · rw [takeRecord_line hq hline, hown]
      rfl
    · rw [takeRecord, hq]
      dsimp only
      rw [hmark]
    · rw [takeRecord, hq]
      dsimp only
      rw [htakeover]
      exact if_neg hr
  · have htake {t : State} (ht : takeOver s = t) : exec .applyTakeRecord s = .next (settle s t) := by
      refine next_settled (f := takeNext) h ((if_pos hengine).trans ?_)
      rw [takeRecord, hq]
      dsimp only
      rw [hx]
      exact (if_pos hr).trans ht
    refine ⟨fun hup => htake ?_, fun hup => htake ?_⟩
    · rw [takeOver, hq, if_pos hup, ← quietStarted_eq]
      simp only [sendFrame_setStandby, changeRole_setStandby, hengine]
      rfl
    · rw [takeOver, hq, if_neg hup, ← hengine]
      rfl

end Sys2Proof.Machine

/-! # The transfer of records (O39 to O41) -/

namespace Sys2Proof.Machine

open Sys2Proof

/-! ## Entries that leave or are flushed, one after another -/

/-- An operation that gives the slot of a MARK a state, over a list of entries. -/
theorem foldl_slots {f : State → Entry → State} {x : SlotState}
    (hmark : ∀ (s : State) (e : Entry) (i : SlotId), (∃ tag, e.body = .mark tag i) → (f s e).slots[i] = { s.slots[i] with state := x })
    (hother : ∀ (s : State) (e : Entry) (i : SlotId), (∀ tag, e.body ≠ .mark tag i) → (f s e).slots[i] = s.slots[i])
    (es : List Entry) (s : State) (i : SlotId) :
    ((∃ e ∈ es, ∃ tag, e.body = .mark tag i) → (es.foldl f s).slots[i] = { s.slots[i] with state := x }) ∧
    ((∀ e ∈ es, ∀ tag, e.body ≠ .mark tag i) → (es.foldl f s).slots[i] = s.slots[i]) := by
  induction es generalizing s with
  | nil => exact ⟨fun ⟨_, he, _⟩ => (nomatch he), fun _ => rfl⟩
  | cons e rest ih =>
    obtain ⟨hin, hout⟩ := ih (f s e)
    by_cases he : ∃ tag, e.body = .mark tag i
    · refine ⟨fun _ => ?_, fun hno => absurd he (not_exists.2 (hno e (List.mem_cons_self ..)))⟩
      by_cases hrest : ∃ d ∈ rest, ∃ tag, d.body = .mark tag i
      · rw [List.foldl_cons, hin hrest, hmark s e i he]
      · rw [List.foldl_cons, hout fun d hd tag hb => hrest ⟨d, hd, tag, hb⟩, hmark s e i he]
    · have hkept := hother s e i (not_exists.1 he)
      refine ⟨fun ⟨d, hd, hb⟩ => ?_, fun hno => ?_⟩
      · obtain rfl | hd := List.mem_cons.1 hd
        · exact absurd hb he
        · rw [List.foldl_cons, hin ⟨d, hd, hb⟩, hkept]
      · rw [List.foldl_cons, hout fun d hd => hno d (List.mem_cons_of_mem _ hd), hkept]

/-- An operation that sets a cause for a MARK, over a list of entries. -/
theorem foldl_hasCause {f : State → Entry → State} {x : Cause}
    (hf : ∀ (s : State) (e : Entry) (c : Cause), hasCause (f s e) c = true ↔ hasCause s c = true ∨ (c = x ∧ ∃ tag i, e.body = .mark tag i))
    (es : List Entry) (s : State) (c : Cause) :
    hasCause (es.foldl f s) c = true ↔ hasCause s c = true ∨ (c = x ∧ ∃ e ∈ es, ∃ tag i, e.body = .mark tag i) := by
  induction es generalizing s with
  | nil => simp
  | cons e rest ih =>
    rw [List.foldl_cons, ih, hf, or_assoc, ← and_or_left]
    simp only [List.mem_cons, exists_eq_or_imp]

theorem decideSlot_same (i : SlotId) (x : SlotState) (s : State) :
    (decideSlot i x s).slots[i] = { s.slots[i] with state := x } := by
  simp [decideSlot]

theorem decideSlot_other {i j : SlotId} (h : i ≠ j) (x : SlotState) (s : State) : (decideSlot i x s).slots[j] = s.slots[j] := by
  have : i.val ≠ j.val := fun hv => h (Fin.ext hv)
  simp [decideSlot, this]

/-! ## Removal by acknowledgement (R39, R40, R144) -/

theorem completeMark_marked {e : Entry} {tag : Byte} {i : SlotId} (he : e.body = .mark tag i) (s : State) :
    completeMark s e = setCause .checkpointDone (decideSlot i .done s) := by
  rw [completeMark, he]

theorem completeMark_unmarked {e : Entry} (he : ∀ tag i, e.body ≠ .mark tag i) (s : State) : completeMark s e = s := by
  unfold completeMark
  split
  next tag i hb => exact absurd hb (he tag i)
  all_goals rfl

theorem completeMark_frame (s : State) (e : Entry) : completeMark s e = { s with
    slots := (completeMark s e).slots, causes := (completeMark s e).causes } := by
  unfold completeMark
  split <;> rfl

theorem completeMarks_frame (es : List Entry) (s : State) : es.foldl completeMark s = { s with
    slots := (es.foldl completeMark s).slots, causes := (es.foldl completeMark s).causes } := by
  induction es generalizing s with
  | nil => rfl
  | cons e rest ih =>
    rw [List.foldl_cons, ih, completeMark_frame s e]

theorem completeMarks_slots (es : List Entry) (s : State) (i : SlotId) :
    ((∃ e ∈ es, ∃ tag, e.body = .mark tag i) → (es.foldl completeMark s).slots[i] = { s.slots[i] with state := .done }) ∧
    ((∀ e ∈ es, ∀ tag, e.body ≠ .mark tag i) → (es.foldl completeMark s).slots[i] = s.slots[i]) := by
  refine foldl_slots (fun s e i he => ?_) (fun s e i hno => ?_) es s i
  · obtain ⟨tag, hb⟩ := he
    rw [completeMark_marked hb]
    exact decideSlot_same ..
  · by_cases he : ∃ tag j, e.body = .mark tag j
    · obtain ⟨tag, j, hb⟩ := he
      rw [completeMark_marked hb]
      exact decideSlot_other (fun hj : j = i => hno tag (hj ▸ hb)) ..
    · rw [completeMark_unmarked fun tag j hb => he ⟨tag, j, hb⟩]

theorem completeMarks_hasCause (es : List Entry) (s : State) (c : Cause) :
    hasCause (es.foldl completeMark s) c = true ↔
      hasCause s c = true ∨ (c = .checkpointDone ∧ ∃ e ∈ es, ∃ tag i, e.body = .mark tag i) := by
  refine foldl_hasCause (fun s e c => ?_) es s c
  by_cases he : ∃ tag j, e.body = .mark tag j
  · obtain ⟨tag, j, hb⟩ := he
    rw [completeMark_marked hb, hasCause_setCause, Bool.or_eq_true, decide_eq_true_iff]
    exact or_congr_right (and_iff_left (show ∃ tag i, e.body = .mark tag i from ⟨tag, j, hb⟩)).symm
  · rw [completeMark_unmarked fun tag j hb => he ⟨tag, j, hb⟩]
    exact (or_iff_left fun hc => he hc.2).symm

/-- The state with the entries before ASEQ gone, before their MARKs are told (R39). -/
def entriesRemoved (aseq : Byte) (s : State) : State :=
  { s with
    journal := s.journal.filter fun e => !e.state.isBefore s.link.ackPoint aseq
    link.ackPoint := aseq
    link.cursor := if seqBefore s.link.ackPoint aseq s.link.cursor then aseq else s.link.cursor }

/-- The same with the slots of the removed MARKs DONE (R144). -/
def marksCompleted (aseq : Byte) (s : State) : State := (removedBy s aseq).foldl completeMark (entriesRemoved aseq s)

theorem marksCompleted_frame (aseq : Byte) (s : State) : marksCompleted aseq s = { entriesRemoved aseq s with
    slots := (marksCompleted aseq s).slots, causes := (marksCompleted aseq s).causes } := completeMarks_frame _ _

theorem removeAcknowledged_eq (aseq : Byte) (s : State) :
    removeAcknowledged aseq s =
      if s.journal.any fun e => e.state.isBefore s.link.ackPoint aseq then representStalled (marksCompleted aseq s)
      else marksCompleted aseq s := by
  have hempty : (removedBy s aseq).isEmpty = !s.journal.any fun e => e.state.isBefore s.link.ackPoint aseq := by
    rw [removedBy, Bool.eq_iff_iff, List.isEmpty_iff, List.filter_eq_nil_iff, Bool.not_eq_true', List.any_eq_false]
  show (if (removedBy s aseq).isEmpty = true then marksCompleted aseq s else representStalled (marksCompleted aseq s)) = _
  rw [hempty]
  cases s.journal.any fun e => e.state.isBefore s.link.ackPoint aseq <;> rfl

theorem mem_removedBy {s : State} {aseq : Byte} {e : Entry} :
    e ∈ removedBy s aseq ↔ e ∈ s.journal ∧ e.state.isBefore s.link.ackPoint aseq = true := List.mem_filter

/-! ### The oldest entries are those that leave (R25, R39) -/

theorem sentFirst_add (a : Byte) (j l m : Nat) : sentFirst a (j + l) m = sentFirst a j 0 ++ sentFirst (a + BitVec.ofNat 8 j) l m := by
  simp only [sentFirst, run_append, List.map_append, List.append_assoc, List.replicate_zero, List.nil_append]

theorem length_sentFirst (a : Byte) (k m : Nat) : (sentFirst a k m).length = k + m := by simp [sentFirst]

theorem length_sequences (es : List Entry) : (sequences es).length = es.length := List.length_map _

/-- With SENT entries in sequence from `a`, those before the j-th sequence are the j oldest. -/
theorem filter_sentInOrder {a : Byte} {es : List Entry} {j l m : Nat} (hseqs : sequences es = sentFirst a (j + l) m) (hfew : j + l ≤ 32) :
    (es.filter fun e => !e.state.isBefore a (a + BitVec.ofNat 8 j)) = es.drop j ∧
      sequences (es.drop j) = sentFirst (a + BitVec.ofNat 8 j) l m := by
  have hsplit : sequences (es.take j) ++ sequences (es.drop j) = sentFirst a j 0 ++ sentFirst (a + BitVec.ofNat 8 j) l m := by
    rw [← sentFirst_add, ← hseqs, sequences, sequences, ← List.map_append, List.take_append_drop]
    rfl
  have hlength : (sequences (es.take j)).length = (sentFirst a j 0).length := by
    have htotal := congrArg List.length hseqs
    rw [length_sequences, length_sentFirst] at htotal
    rw [length_sequences, length_sentFirst, List.length_take]
    omega
  obtain ⟨htake, hdrop⟩ := List.append_inj hsplit hlength
  refine ⟨?_, hdrop⟩
  have hgone : (es.take j).filter (fun e => !e.state.isBefore a (a + BitVec.ofNat 8 j)) = [] := by
    rw [← List.length_eq_zero_iff, ← length_sequences, sequences_filter, htake, filter_sentFirst a (Nat.le_refl j) (by omega)]
    rw [length_sentFirst]
    omega
  have hkept : ((es.drop j).filter fun e => !e.state.isBefore a (a + BitVec.ofNat 8 j)) = es.drop j := by
    have hall := filter_sentFirst a (Nat.le_add_right j l) hfew m
    rw [sentFirst_add, List.filter_append, filter_sentFirst a (Nat.le_refl j) (by omega), Nat.sub_self, Nat.add_sub_cancel_left] at hall
    have hsame : (sentFirst (a + BitVec.ofNat 8 j) l m).filter (fun q => !acknowledged a (a + BitVec.ofNat 8 j) q) =
        sentFirst (a + BitVec.ofNat 8 j) l m := hall
    refine List.filter_sublist.eq_of_length ?_
    rw [← length_sequences, sequences_filter, hdrop, hsame, ← hdrop, length_sequences]
  rw [← List.take_append_drop j es, List.filter_append, hgone, hkept, List.take_append_drop]
  rfl

/-- Settles O41: the removal is `marksCompleted`, and its filter drops the oldest entries. -/
theorem removalByAcknowledgement : Obligations.RemovalByAcknowledgement := by
  intro aseq s
  have hremoved (e : Entry) (P : Prop) : (e ∈ removedBy s aseq ∧ P) ↔
      (e ∈ s.journal ∧ e.state.isBefore s.link.ackPoint aseq = true ∧ P) := by rw [mem_removedBy, and_assoc]
  refine ⟨fun e => e.state.isBefore s.link.ackPoint aseq, marksCompleted aseq s, fun e => isBefore_iff _ _ _, ?update,
    removeAcknowledged_eq aseq s, fun i => ?slots, fun c => ?causes, fun horder hfew hle => ?oldest⟩
  case update =>
    simp only [← seqBefore_iff]
    exact marksCompleted_frame aseq s
  case slots =>
    obtain ⟨hmarked, hother⟩ := completeMarks_slots (removedBy s aseq) (entriesRemoved aseq s) i
    refine ⟨fun ⟨e, he, hb⟩ => hmarked ⟨e, (hremoved e _).2 ⟨he, hb⟩⟩, fun hno => hother fun e he => ?_⟩
    obtain ⟨hmem, hbefore⟩ := mem_removedBy.1 he
    exact hno e hmem hbefore
  case causes =>
    refine (completeMarks_hasCause (removedBy s aseq) (entriesRemoved aseq s) c).trans ?_
    simp only [hremoved]
    rfl
  case oldest =>
    have hjournal : (marksCompleted aseq s).journal = s.journal.filter fun e => !e.state.isBefore s.link.ackPoint aseq :=
      congrArg State.journal (marksCompleted_frame aseq s)
    obtain ⟨k, m, hseqs⟩ := (sentInOrder_iff _ _).1 horder
    have hcount : sentEntries s = k := by rw [sentEntries_eq, hseqs, countP_sentFirst]
    rw [hcount] at hfew hle
    have haseq : s.link.ackPoint + BitVec.ofNat 8 (aseq - s.link.ackPoint).toNat = aseq := by
      rw [BitVec.ofNat_toNat, BitVec.setWidth_eq, BitVec.add_comm, BitVec.sub_add_cancel]
    generalize (aseq - s.link.ackPoint).toNat = j at hle haseq
    obtain ⟨l, rfl⟩ := Nat.exists_eq_add_of_le hle
    obtain ⟨hfilter, hdrop⟩ := filter_sentInOrder hseqs hfew
    rw [haseq] at hfilter hdrop
    rw [hjournal, hfilter]
    exact ⟨rfl, (sentInOrder_iff _ _).2 ⟨l, m, hdrop⟩⟩

/-! ## ACK and RESEND (R71 to R73, R81 to R83) -/

theorem removeAcknowledged_link (aseq : Byte) (s : State) : (removeAcknowledged aseq s).link = (entriesRemoved aseq s).link := by
  have hmarks : (marksCompleted aseq s).link = (entriesRemoved aseq s).link :=
    (congrArg State.link (marksCompleted_frame aseq s)).trans rfl
  rw [removeAcknowledged_eq]
  split
  · exact (congrArg State.link (representStalled_frame _) :).trans hmarks
  · exact hmarks

theorem removeAcknowledged_linkParams (aseq : Byte) (s : State) : (removeAcknowledged aseq s).linkParams = s.linkParams := by
  obtain ⟨⟨-, -, -, hparams, -⟩, -⟩ := removeAcknowledged_routine aseq s
  exact hparams

theorem coversTakeover_iff (s : State) (aseq : Byte) :
    coversTakeover s aseq = true ↔ ∃ e ∈ s.journal, e.body = .takeover ∧ ∃ q n, e.state = .sent q n ∧
      (q - s.link.ackPoint).toNat < (aseq - s.link.ackPoint).toNat := by
  rw [coversTakeover, List.any_eq_true]
  refine exists_congr fun e => ?_
  rw [mem_removedBy, Body.isTakeover_iff, isBefore_iff]
  exact ⟨fun ⟨⟨hmem, hbefore⟩, hb⟩ => ⟨hmem, hb, hbefore⟩, fun ⟨hmem, hb, hbefore⟩ => ⟨⟨hmem, hbefore⟩, hb⟩⟩

theorem receiveAck_activeSide {s : State} (aseq : Byte) (final hold swap : Bool) (hl : s.link.state = .up ∨ s.link.state = .recovery)
    (hside : s.role.activeSide = true) :
    receiveAck aseq final hold swap s =
      if ackValid s aseq swap then takeAck aseq final hold (heardOther s) else loseLink .sequence none s := by
  obtain hl | hl := hl <;>
  · rw [receiveAck, hl]
    exact if_pos hside

theorem receiveResend_activeSide {s : State} (aseq rseq : Byte) (hold : Bool) (hl : s.link.state = .up ∨ s.link.state = .recovery)
    (hside : s.role.activeSide = true) :
    receiveResend aseq rseq hold s =
      if resendValid s aseq rseq then takeResend aseq rseq hold (heardOther s) else loseLink .sequence none s := by
  obtain hl | hl := hl <;>
  · rw [receiveResend, hl]
    exact if_pos hside

theorem ackInUp_eq (aseq : Byte) (hold : Bool) (s : State) :
    ackInUp aseq hold s = { removeAcknowledged aseq s with
      link.peerHold := hold
      link.replyTimer :=
        if sentEntries (removeAcknowledged aseq s) = 0 then none
        else if aseq ≠ s.link.ackPoint then some s.linkParams.reply.toNat else s.link.replyTimer } := by
  have hsent : sentEntries { removeAcknowledged aseq s with link.peerHold := hold } = sentEntries (removeAcknowledged aseq s) := rfl
  have hreply : s.link.replyTimer = (removeAcknowledged aseq s).link.replyTimer :=
    (congrArg Link.replyTimer (removeAcknowledged_link aseq s)).symm
  rw [ackInUp, replyAfterAck, hsent, hreply, ← removeAcknowledged_linkParams aseq s]
  split
  · rfl
  by_cases hadvanced : aseq = s.link.ackPoint
  · rw [if_neg (by simp [hadvanced]), if_neg (not_not.2 hadvanced)]
  · rw [if_pos (bne_iff_ne.2 hadvanced), if_pos hadvanced]
    rfl

theorem ackEndsRecovery_eq (aseq : Byte) (hold : Bool) (s : State) :
    ackEndsRecovery aseq hold s = { removeAcknowledged aseq s with
      link.peerHold := hold, link.state := .up, link.retry := 0
      link.cursor := if sentEntries (removeAcknowledged aseq s) = 0 then (removeAcknowledged aseq s).link.cursor else aseq
      link.replyTimer := if sentEntries (removeAcknowledged aseq s) = 0 then none else some s.linkParams.reply.toNat } := by
  have hpoint : (removeAcknowledged aseq s).link.ackPoint = aseq :=
    congrArg Link.ackPoint (removeAcknowledged_link aseq s)
  show (if sentEntries (removeAcknowledged aseq s) = 0 then _ else _) = _
  split
  · rfl
  · rw [← removeAcknowledged_linkParams aseq s]
    exact congrArg (fun a => { removeAcknowledged aseq s with
      link.peerHold := hold, link.state := .up, link.retry := 0, link.cursor := a
      link.replyTimer := some (removeAcknowledged aseq s).linkParams.reply.toNat }) hpoint

theorem takeResend_eq (aseq rseq : Byte) (hold : Bool) (s : State) :
    takeResend aseq rseq hold s = { removeAcknowledged aseq s with
      link.peerHold := hold, link.cursor := rseq
      linkStats.resendReceived := s.linkStats.resendReceived + 1
      link.replyTimer :=
        if s.link.state = .recovery then s.link.replyTimer
        else if sentEntries (removeAcknowledged aseq s) = 0 then none else some s.linkParams.reply.toNat } := by
  have hstate : s.link.state = (removeAcknowledged aseq s).link.state :=
    (congrArg Link.state (removeAcknowledged_link aseq s)).symm
  have hreply : s.link.replyTimer = (removeAcknowledged aseq s).link.replyTimer :=
    (congrArg Link.replyTimer (removeAcknowledged_link aseq s)).symm
  rw [hstate, hreply, ← removeAcknowledged_linkParams aseq s]
  show (if (removeAcknowledged aseq s).link.state = .recovery then _
    else if sentEntries (removeAcknowledged aseq s) = 0 then _ else _) = _
  split
  · rfl
  split <;> rfl

/-- Settles O40: R71 decides, then the link state and the FINAL flag. -/
theorem ackAndResend : Obligations.AckAndResend := by
  intro aseq rseq final hold swap s h hl
  refine ⟨fun hna hnh => ?standbySide, fun hside => ?activeSide⟩
  case standbySide =>
    have hside : ¬s.role.activeSide = true := Bool.eq_false_iff.1 (Role.activeSide_eq_false_of hna hnh)
    obtain hl | hl := hl <;>
    · refine ⟨next_settled (f := receiveAck aseq final hold swap) h ?_, next_settled (f := receiveResend aseq rseq hold) h ?_⟩
      · rw [receiveAck, hl]
        exact if_neg hside
      · rw [receiveResend, hl]
        exact if_neg hside
  case activeSide =>
    have hside := Role.activeSide_of hside
    have hheard := heardOther_activeSide (LinkState.associated_of hl) hside
    have hack {t : State} (hvalid : ackValid s aseq swap = true) (ht : takeAck aseq final hold (heardOther s) = t) :
        exec (.ackReceived aseq final hold swap) s = .next (settle s t) :=
      next_settled (f := receiveAck aseq final hold swap) h
        ((receiveAck_activeSide aseq final hold swap hl hside).trans ((if_pos hvalid).trans ht))
    have hcovers : coversTakeover (heardOther s) aseq = coversTakeover s aseq := by rw [hheard]; rfl
    have hstate : (heardOther s).link.state = s.link.state := by rw [hheard]
    refine ⟨seqInRange s.link.ackPoint s.link.sendPoint aseq, coversTakeover s aseq, heardOther s, _, seqInRange_iff _ _ _,
      coversTakeover_iff s aseq, by rw [hheard, quietStarted_eq], rfl, fun hbad => ?badAck, fun hin htakes hswap => hack ?valid ?takeover,
      fun hin hplain hswap => ?plainAck, fun hbad => ?badResend, fun hin hplain hrseq => ?resend⟩
    case badAck =>
      refine next_settled (f := receiveAck aseq final hold swap) h ((receiveAck_activeSide aseq final hold swap hl hside).trans ?_)
      refine if_neg fun hc => ?_
      obtain ⟨hin, hswap⟩ := Bool.and_eq_true_iff.1 hc
      exact hbad.elim (fun hno => by rw [hno] at hin; cases hin) fun hne => hne (beq_iff_eq.1 hswap)
    case valid => rw [ackValid, hin, htakes, hswap]; rfl
    case takeover => rw [takeAck, if_pos (hcovers.trans htakes)]
    case plainAck =>
      have hvalid : ackValid s aseq swap = true := by rw [ackValid, hin, hplain, hswap]; rfl
      have hno : ¬coversTakeover (heardOther s) aseq = true := by rw [hcovers, hplain]; nofun
      refine ⟨fun hup => hack hvalid ?_, fun hrec hfinal => hack hvalid ?_, fun hrec hfinal => hack hvalid ?_⟩
      · rw [takeAck, if_neg hno, if_neg (by rw [hstate, hup]; nofun), ackInUp_eq]
        simp only [hheard]
      · rw [takeAck, if_neg hno, if_pos (hstate.trans hrec), if_pos hfinal, ackEndsRecovery_eq]
        simp only [hheard]
      · rw [takeAck, if_neg hno, if_pos (hstate.trans hrec), if_neg (by rw [hfinal]; nofun), ackInRecovery]
    case badResend =>
      refine next_settled (f := receiveResend aseq rseq hold) h ((receiveResend_activeSide aseq rseq hold hl hside).trans ?_)
      refine if_neg fun hc => ?_
      obtain ⟨hranges, hplain⟩ := Bool.and_eq_true_iff.1 hc
      obtain ⟨hin, hrseq⟩ := Bool.and_eq_true_iff.1 hranges
      obtain hno | htakes | hfar := hbad
      · rw [hno] at hin
        cases hin
      · rw [htakes] at hplain
        cases hplain
      · exact Nat.not_lt.2 ((seqInRange_iff _ _ _).1 hrseq) hfar
    case resend =>
      have hvalid : resendValid s aseq rseq = true := by
        rw [resendValid, hin, hplain, (seqInRange_iff _ _ _).2 hrseq]
        rfl
      refine next_settled (f := receiveResend aseq rseq hold) h
        ((receiveResend_activeSide aseq rseq hold hl hside).trans ((if_pos hvalid).trans ?_))
      rw [takeResend_eq]
      simp only [hheard]

/-! ## REC_DECISION (R36, R37, R69, R70) -/

theorem exec_recDecision {s t : State} (h : s.resetLow = false) (ht : decideRec s = t) : exec .recDecision s = .next t :=
  next_live (f := decideRec) h ht

theorem mayDecideRec_iff (s : State) :
    mayDecideRec s = true ↔ s.link.state = .up ∧ (s.role = .active ∨ s.role = .handingOver) ∧ s.link.peerHold = false ∧
      s.link.tx = none ∧ s.link.txQueue = [] := by
  simp only [mayDecideRec, Bool.and_eq_true, beq_iff_eq, Role.activeSide_iff, Bool.not_eq_true', Option.isNone_iff_eq_none,
    List.isEmpty_iff, and_assoc]

theorem entryWithSeq_append {q : Byte} {older younger : List Entry} {b : Body} {n : Nat}
    (hno : ∀ e ∈ older ++ younger, ∀ k, e.state ≠ .sent q k) :
    entryWithSeq q (older ++ [{ body := b, state := .sent q n }] ++ younger) = some { body := b, state := .sent q n } := by
  have hskip : older.find? (fun e => e.state.hasSeq q) = none := by
    refine List.find?_eq_none.2 fun e he hseq => ?_
    obtain ⟨k, hk⟩ := (hasSeq_iff _ _).1 hseq
    exact hno e (List.mem_append_left _ he) k hk
  have hfound : ([({ body := b, state := .sent q n } : Entry)] ++ younger).find? (fun e => e.state.hasSeq q) =
      some { body := b, state := .sent q n } := List.find?_cons_of_pos ((hasSeq_iff _ _).2 ⟨n, rfl⟩)
  rw [entryWithSeq, List.append_assoc, List.find?_append, hskip, hfound]
  rfl

theorem raiseSendCount_keep {q : Byte} {es : List Entry} (hno : ∀ e ∈ es, ∀ k, e.state ≠ .sent q k) : raiseSendCount q es = es := by
  refine (List.map_congr_left fun e he => ?_).trans (List.map_id es)
  split
  next x n hx => exact if_neg fun hq : x = q => hno e he n (hq ▸ hx)
  all_goals rfl

theorem raiseSendCount_append {q : Byte} {older younger : List Entry} {b : Body} {n : Nat}
    (hno : ∀ e ∈ older ++ younger, ∀ k, e.state ≠ .sent q k) :
    raiseSendCount q (older ++ [{ body := b, state := .sent q n }] ++ younger) =
      older ++ [{ body := b, state := .sent q (n + 1) }] ++ younger := by
  have holder : raiseSendCount q older = older := raiseSendCount_keep fun e he => hno e (List.mem_append_left _ he)
  have hyounger : raiseSendCount q younger = younger := raiseSendCount_keep fun e he => hno e (List.mem_append_right _ he)
  have hthis : raiseSendCount q [{ body := b, state := .sent q n }] = [{ body := b, state := .sent q (n + 1) }] :=
    congrArg (fun e => [e]) (if_pos rfl)
  have happend (xs ys : List Entry) : raiseSendCount q (xs ++ ys) = raiseSendCount q xs ++ raiseSendCount q ys := List.map_append
  rw [happend, happend, holder, hyounger, hthis]

theorem transmitFirst_pending {s : State} {b : Body} (hfirst : firstUnsent s.journal = some { body := b, state := .pending }) :
    transmitFirst s = if sentEntries s < s.linkParams.window.toNat then { s with
      journal := setFirstUnsent (.sent s.link.sendPoint 1) s.journal
      link.sendPoint := s.link.sendPoint + 1, link.cursor := s.link.sendPoint + 1
      linkStats.sentFirst := s.linkStats.sentFirst + 1
      link.replyTimer := if sentEntries s = 0 then some s.linkParams.reply.toNat else s.link.replyTimer
      link.tx := some (.record s.link.sendPoint b.record), keptSwap := none } else s := by
  rw [transmitFirst, hfirst]
  refine if_congr Iff.rfl ?_ rfl
  dsimp only [transmit]
  split <;> rfl

theorem transmitFirst_none {s : State} (hfirst : ∀ b, firstUnsent s.journal ≠ some { body := b, state := .pending }) :
    transmitFirst s = s := by
  unfold transmitFirst
  split
  next b hb => exact absurd hb (hfirst b)
  next => rfl

/-- Settles O39: the cursor, then the oldest entry that is not SENT. -/
theorem recDecision : Obligations.RecDecision := by
  refine ⟨⟨fun _ _ _ => rfl, fun _ _ _ => rfl, fun _ _ => rfl, rfl⟩, fun s h => ⟨fun hup hside hhold htx hqueue => ?may, fun hno => ?mayNot⟩⟩
  case mayNot =>
    refine exec_recDecision h (if_neg fun hc => ?_)
    obtain ⟨hup, hside, hhold, htx, hqueue⟩ := (mayDecideRec_iff s).1 hc
    obtain hno | ⟨hna, hnh⟩ | hno | hno | hno := hno
    · exact hno hup
    · exact hside.elim hna hnh
    · rw [hhold] at hno
      cases hno
    · exact hno htx
    · exact hno hqueue
  case may =>
    have hmay := (mayDecideRec_iff s).2 ⟨hup, hside, hhold, htx, hqueue⟩
    have hfirst {t : State} (hs : s.link.cursor = s.link.sendPoint) (ht : transmitFirst s = t) : exec .recDecision s = .next t :=
      exec_recDecision h ((if_pos hmay).trans ((if_pos hs).trans ht))
    have hsent {older : List Entry} (ho : ∀ e ∈ older, ∃ q n, e.state = .sent q n) (e : Entry) (he : e ∈ older) :
        e.state.isSent = true := (isSent_iff _).2 (ho e he)
    refine ⟨fun older younger b n hs hj hno => ?again, fun older younger b hs hj ho hroom => hfirst hs ?first,
      fun older younger b hs hj ho => hfirst hs (transmitFirst_none fun c hc => ?filling), fun hs hno => hfirst hs ?waits⟩
    case again =>
      refine exec_recDecision h ((if_pos hmay).trans ((if_neg hs).trans ?_))
      rw [retransmit, hj, entryWithSeq_append hno, raiseSendCount_append hno]
      rfl
    case first =>
      rw [List.append_assoc] at hj
      rw [transmitFirst_pending (hj ▸ firstUnsent_append older younger _ (hsent ho) rfl), if_pos hroom, hj, List.append_assoc]
      rw [show older ++ ([({ body := b, state := .pending } : Entry)] ++ younger) = older ++ { body := b, state := .pending } :: younger from rfl,
        setFirstUnsent_append _ older younger _ (hsent ho) rfl]
      rfl
    case filling =>
      rw [hj, List.append_assoc] at hc
      cases (firstUnsent_append older younger { body := b, state := .filling } (hsent ho) rfl).symm.trans hc
    case waits =>
      obtain hall | hfull := hno
      · exact transmitFirst_none fun b hb => by
          rw [firstUnsent_eq_none _ (hsent hall)] at hb
          cases hb
      · by_cases hb : ∃ b, firstUnsent s.journal = some { body := b, state := .pending }
        · obtain ⟨b, hb⟩ := hb
          rw [transmitFirst_pending hb, if_neg (Nat.not_lt.2 hfull)]
        · exact transmitFirst_none (not_exists.1 hb)

end Sys2Proof.Machine

/-! # The loss of an association (O31, O32) -/

namespace Sys2Proof.Machine

open Sys2Proof

/-! ## The flush (R41, R145) -/

/-- The flush of an entry marks a track: its window still holds its line. -/
def Entry.marksTrack (ws : Vector Window 8) (w : WindowId) (k : Nat) (e : Entry) : Prop :=
  ∃ line : LineNo, ((∃ b, e.body = .write w line b) ∨ ∃ d, e.body = .fill w line d) ∧
    ws[w].isMatch (64 * line.toNat) = true ∧ ws[w].trackOf (64 * line.toNat) = k

theorem getLsbD_flushLine (v w : WindowId) (line : LineNo) (k : Nat) (s : State) :
    (flushLine v line s).maps[w].getLsbD k = true ↔
      s.maps[w].getLsbD k = true ∨
        (k < 64 ∧ w = v ∧ s.windows[w].isMatch (64 * line.toNat) = true ∧ s.windows[w].trackOf (64 * line.toNat) = k) := by
  by_cases hw : w = v
  · subst hw
    unfold flushLine
    split
    next hmatch =>
      have hmatch : s.windows[w].isMatch (64 * line.toNat) = true := hmatch
      rw [getLsbD_markTrack, Bool.or_eq_true, Bool.and_eq_true, Bool.and_eq_true, decide_eq_true_iff, decide_eq_true_iff,
        decide_eq_true_iff]
      exact or_congr_right ⟨fun ⟨⟨_, hk⟩, hlt⟩ => ⟨hlt, rfl, hmatch, hk.symm⟩, fun ⟨hlt, _, _, hk⟩ => ⟨⟨rfl, hk.symm⟩, hlt⟩⟩
    next hno => exact (or_iff_left fun hc => hno hc.2.2.1).symm
  · have hsame : (flushLine v line s).maps[w] = s.maps[w] := by
      have hval : v.val ≠ w.val := fun h => hw (Fin.ext h.symm)
      unfold flushLine
      split
      · simp [markTrack, hval]
      · rfl
    rw [hsame]
    exact (or_iff_left fun hc => hw hc.2.1).symm

theorem getLsbD_flushEntry (s : State) (e : Entry) (w : WindowId) (k : Nat) :
    (flushEntry s e).maps[w].getLsbD k = true ↔
      s.maps[w].getLsbD k = true ∨ (k < 64 ∧ e.marksTrack s.windows w k) := by
  unfold flushEntry Entry.marksTrack
  cases he : e.body with
  | write v line b | fill v line b =>
    refine (getLsbD_flushLine v w line k s).trans (or_congr_right (and_congr_right fun _ => ?_))
    constructor
    · rintro ⟨rfl, hmatch, hk⟩
      exact ⟨line, by simp, hmatch, hk⟩
    · rintro ⟨l, hbody, hmatch, hk⟩
      obtain ⟨_, hb⟩ | ⟨_, hb⟩ := hbody <;> cases hb
      exact ⟨rfl, hmatch, hk⟩
  | mark tag i => exact (or_iff_left fun ⟨_, _, hbody, _⟩ => by simp at hbody).symm
  | takeover => exact (or_iff_left fun ⟨_, _, hbody, _⟩ => by simp at hbody).symm

theorem flushEntry_windows (s : State) (e : Entry) : (flushEntry s e).windows = s.windows :=
  (congrArg State.windows (flushEntry_frame s e) :)

theorem getLsbD_flushEntries (es : List Entry) (s : State) (w : WindowId) (k : Nat) :
    (es.foldl flushEntry s).maps[w].getLsbD k = true ↔
      s.maps[w].getLsbD k = true ∨ (k < 64 ∧ ∃ e ∈ es, e.marksTrack s.windows w k) := by
  induction es generalizing s with
  | nil => simp
  | cons e rest ih =>
    rw [List.foldl_cons, ih, getLsbD_flushEntry, flushEntry_windows, or_assoc, ← and_or_left]
    simp only [List.mem_cons, exists_eq_or_imp]

theorem flushLine_slots (v : WindowId) (line : LineNo) (s : State) : (flushLine v line s).slots = s.slots :=
  (congrArg State.slots (flushLine_frame v line s) :)

theorem flushEntry_marked {e : Entry} {tag : Byte} {i : SlotId} (he : e.body = .mark tag i) (s : State) :
    flushEntry s e = setCause .checkpointFailed (decideSlot i .failed s) := by
  rw [flushEntry, he]

theorem flushEntry_unmarked {e : Entry} (he : ∀ tag i, e.body ≠ .mark tag i) (s : State) :
    (flushEntry s e).slots = s.slots ∧ (flushEntry s e).causes = s.causes := by
  unfold flushEntry
  split
  · exact ⟨flushLine_slots .., flushLine_causes ..⟩
  · exact ⟨flushLine_slots .., flushLine_causes ..⟩
  next tag i hb => exact absurd hb (he tag i)
  · exact ⟨rfl, rfl⟩

theorem flushEntries_slots (es : List Entry) (s : State) (i : SlotId) :
    ((∃ e ∈ es, ∃ tag, e.body = .mark tag i) → (es.foldl flushEntry s).slots[i] = { s.slots[i] with state := .failed }) ∧
    ((∀ e ∈ es, ∀ tag, e.body ≠ .mark tag i) → (es.foldl flushEntry s).slots[i] = s.slots[i]) := by
  refine foldl_slots (fun s e i he => ?_) (fun s e i hno => ?_) es s i
  · obtain ⟨tag, hb⟩ := he
    rw [flushEntry_marked hb]
    exact decideSlot_same ..
  · by_cases he : ∃ tag j, e.body = .mark tag j
    · obtain ⟨tag, j, hb⟩ := he
      rw [flushEntry_marked hb]
      exact decideSlot_other (fun hj : j = i => hno tag (hj ▸ hb)) ..
    · obtain ⟨hslots, -⟩ := flushEntry_unmarked (fun tag j hb => he ⟨tag, j, hb⟩) s
      rw [hslots]

theorem flushEntries_hasCause (es : List Entry) (s : State) (c : Cause) :
    hasCause (es.foldl flushEntry s) c = true ↔
      hasCause s c = true ∨ (c = .checkpointFailed ∧ ∃ e ∈ es, ∃ tag i, e.body = .mark tag i) := by
  refine foldl_hasCause (fun s e c => ?_) es s c
  by_cases he : ∃ tag j, e.body = .mark tag j
  · obtain ⟨tag, j, hb⟩ := he
    rw [flushEntry_marked hb, hasCause_setCause, Bool.or_eq_true, decide_eq_true_iff]
    exact or_congr_right (and_iff_left (show ∃ tag i, e.body = .mark tag i from ⟨tag, j, hb⟩)).symm
  · obtain ⟨-, hcauses⟩ := flushEntry_unmarked (fun tag j hb => he ⟨tag, j, hb⟩) s
    rw [hasCause, hcauses]
    exact (or_iff_left fun hc => he hc.2).symm

theorem flush_eq (s : State) : flush s = { s with
    maps := (flush s).maps, slots := (flush s).slots, causes := (flush s).causes, journal := [] } :=
  congrArg (fun x : State => { x with
    maps := (flush s).maps, slots := (flush s).slots, causes := (flush s).causes, journal := [] }) (flush_frame s)

/-! ## The active side's loss before its moves are judged (R63) -/

/-- Parts 1 to 5 of the active side's link-loss procedure: recorded, timers stopped, journal flushed, resync engine stopped. -/
def lossFlushed (reason : LossReason) (peer : Option PartReason) (s : State) : State :=
  resyncStop (flush { recordLoss reason peer s with
    link.peerHold := false, link.replyTimer := none, link.quietTimer := .stopped, link.retry := 0 })

theorem activeLoss_eq (reason : LossReason) (peer : Option PartReason) (s : State) :
    activeLoss reason peer s =
      { decideHandover (takeoverSent s) (noteSync s (lossFlushed reason peer s)) with keptSwap := none } := rfl

section Lost

variable (reason : LossReason) (peer : Option PartReason) (s : State)

/-- The fields the loss writes; port, maps, slots and causes have lemmas of their own. -/
theorem lossFlushed_eq : lossFlushed reason peer s = { s with
    link.lastLoss := reason, link.peerPart := peer, linkStats.lost := s.linkStats.lost + 1
    link.peerHold := false, link.replyTimer := none, link.quietTimer := .stopped, link.retry := 0
    journal := [], resync := .idle, port := (lossFlushed reason peer s).port
    maps := (lossFlushed reason peer s).maps, slots := (lossFlushed reason peer s).slots
    causes := (lossFlushed reason peer s).causes } := by
  unfold lossFlushed
  rw [resyncStop_eq, flush_eq]
  rfl

theorem lossFlushed_port : (lossFlushed reason peer s).port =
    s.port.map fun p => if p.owner = .resync then { p with owner := .dropped } else p := by
  unfold lossFlushed
  rw [resyncStop_eq, flush_eq]
  rfl

theorem lossFlushed_maps (w : WindowId) (k : Nat) :
    (lossFlushed reason peer s).maps[w].getLsbD k = true ↔
      s.maps[w].getLsbD k = true ∨ (k < 64 ∧ ∃ e ∈ s.journal, e.marksTrack s.windows w k) ∨
        (k < 64 ∧ ∃ p, s.resync.walk = some p ∧ p.window = w ∧ p.track = k) := by
  unfold lossFlushed
  extract_lets _ _
  rw [resyncStop_eq]
  refine (getLsbD_trackRestored _ w k).trans ?_
  rw [← or_assoc]
  refine or_congr ?_ ?_
  · exact getLsbD_flushEntries s.journal _ w k
  · rw [flush_eq]
    rfl

theorem lossFlushed_slots (i : SlotId) :
    ((∃ e ∈ s.journal, ∃ tag, e.body = .mark tag i) →
      (lossFlushed reason peer s).slots[i] = { s.slots[i] with state := .failed }) ∧
    ((∀ e ∈ s.journal, ∀ tag, e.body ≠ .mark tag i) → (lossFlushed reason peer s).slots[i] = s.slots[i]) := by
  unfold lossFlushed
  rw [resyncStop_eq]
  exact flushEntries_slots s.journal _ i

theorem lossFlushed_hasCause (c : Cause) :
    hasCause (lossFlushed reason peer s) c = true ↔
      hasCause s c = true ∨ c = .linkLost ∨ (c = .checkpointFailed ∧ ∃ e ∈ s.journal, ∃ tag i, e.body = .mark tag i) := by
  unfold lossFlushed
  rw [resyncStop_eq]
  refine (flushEntries_hasCause s.journal _ c).trans ?_
  rw [← or_assoc]
  refine or_congr_left ?_
  refine Iff.trans (Bool.eq_iff_iff.1 (hasCause_setCause .linkLost c s)) ?_
  rw [Bool.or_eq_true, decide_eq_true_iff]

/-- After the flush only marks keep a MIRROR window of the active side from reading IN_SYNC. -/
theorem lossFlushed_syncState {s : State} (hside : s.role.activeSide = true) {w : WindowId} (hm : s.windows[w].mode = .mirror) :
    syncState (lossFlushed reason peer s) w =
      if (lossFlushed reason peer s).maps[w] = 0#64 then .inSync
      else if s.link.state.associated then .resyncing else .diverged := by
  rw [lossFlushed_eq]
  rw [syncState_activeSide (s := { s with
    link.lastLoss := reason, link.peerPart := peer, linkStats.lost := s.linkStats.lost + 1
    link.peerHold := false, link.replyTimer := none, link.quietTimer := .stopped, link.retry := 0
    journal := [], resync := .idle, port := (lossFlushed reason peer s).port
    maps := (lossFlushed reason peer s).maps, slots := (lossFlushed reason peer s).slots
    causes := (lossFlushed reason peer s).causes }) hm hside]
  exact if_congr (and_iff_left ⟨rfl, rfl⟩) rfl rfl

/-! ## The windows' moves at the flush (R5) -/

theorem noteSync_eq (before s : State) : noteSync before s = { s with causes := (noteSync before s).causes } :=
  congrArg (fun x : State => { x with causes := (noteSync before s).causes }) (noteSync_frame before s)

theorem mode_of_inSync {s : State} {w : WindowId} (h : syncState s w = .inSync) : s.windows[w].mode = .mirror := by
  cases hm : s.windows[w].mode with
  | mirror => rfl
  | off => nomatch (syncState_off hm).symm.trans h

theorem Cause.raisedBy_windowDiverged (old new : SyncState) :
    Cause.windowDiverged.raisedBy old new ↔ old = .inSync ∧ (new = .diverged ∨ new = .resyncing) := by
  simp [Cause.raisedBy]

theorem Cause.raisedBy_windowInSync (old new : SyncState) :
    Cause.windowInSync.raisedBy old new ↔ new = .inSync ∧ old ≠ .inSync := by
  simp [Cause.raisedBy]

theorem Cause.not_raisedBy {c : Cause} (hd : c ≠ .windowDiverged) (hi : c ≠ .windowInSync) (old new : SyncState) :
    ¬c.raisedBy old new := by
  simp [Cause.raisedBy, hd, hi]

/-- A cause but for the windows' two, right after the flush. -/
theorem lossNoted_hasCause {c : Cause} (hd : c ≠ .windowDiverged) (hi : c ≠ .windowInSync) :
    hasCause (noteSync s (lossFlushed reason peer s)) c = true ↔
      hasCause s c = true ∨ c = .linkLost ∨ (c = .checkpointFailed ∧ ∃ e ∈ s.journal, ∃ tag i, e.body = .mark tag i) := by
  rw [hasCause_noteSync, lossFlushed_hasCause]
  exact or_iff_left fun ⟨w, hw⟩ => Cause.not_raisedBy hd hi _ _ hw

theorem lossFlushed_hasCause_window {c : Cause} (hl : c ≠ .linkLost) (hc : c ≠ .checkpointFailed) :
    hasCause (lossFlushed reason peer s) c = true ↔ hasCause s c = true := by
  rw [lossFlushed_hasCause]
  exact or_iff_left fun h => h.elim hl fun h => hc h.1

variable {s} in
theorem lossNoted_windowDiverged (hside : s.role.activeSide = true) :
    hasCause (noteSync s (lossFlushed reason peer s)) .windowDiverged = true ↔
      hasCause s .windowDiverged = true ∨ ∃ w : WindowId, syncState s w = .inSync ∧ (lossFlushed reason peer s).maps[w] ≠ 0#64 := by
  rw [hasCause_noteSync, lossFlushed_hasCause_window (c := .windowDiverged) _ _ _ nofun nofun]
  refine or_congr_right (exists_congr fun w => ?_)
  rw [Cause.raisedBy_windowDiverged]
  refine and_congr_right fun hold => ?_
  rw [lossFlushed_syncState _ _ hside (mode_of_inSync hold)]
  by_cases hmap : (lossFlushed reason peer s).maps[w] = 0#64
  · rw [if_pos hmap]
    exact iff_of_false (fun h => h.elim nofun nofun) (not_not.2 hmap)
  · rw [if_neg hmap]
    refine iff_of_true ?_ hmap
    split
    · exact .inr rfl
    · exact .inl rfl

theorem lossFlushed_windows : (lossFlushed reason peer s).windows = s.windows := by
  rw [lossFlushed_eq]

variable {s} in
theorem lossNoted_windowInSync (hside : s.role.activeSide = true) :
    hasCause (noteSync s (lossFlushed reason peer s)) .windowInSync = true ↔
      hasCause s .windowInSync = true ∨ ∃ w : WindowId, s.windows[w].mode = .mirror ∧ syncState s w ≠ .inSync ∧
        (lossFlushed reason peer s).maps[w] = 0#64 := by
  rw [hasCause_noteSync, lossFlushed_hasCause_window (c := .windowInSync) _ _ _ nofun nofun]
  refine or_congr_right (exists_congr fun w => ?_)
  rw [Cause.raisedBy_windowInSync]
  have hnew (hm : s.windows[w].mode = .mirror) :
      syncState (lossFlushed reason peer s) w = .inSync ↔ (lossFlushed reason peer s).maps[w] = 0#64 := by
    rw [lossFlushed_syncState _ _ hside hm]
    split
    next hmap => exact iff_of_true rfl hmap
    next hmap =>
      refine iff_of_false ?_ hmap
      split <;> nofun
  constructor
  · rintro ⟨hin, hold⟩
    have hm : s.windows[w].mode = .mirror := lossFlushed_windows reason peer s ▸ mode_of_inSync hin
    exact ⟨hm, hold, (hnew hm).1 hin⟩
  · rintro ⟨hm, hold, hmap⟩
    exact ⟨(hnew hm).2 hmap, hold⟩

end Lost

theorem endAssociation_activeSide (reason : LossReason) (peer : Option PartReason) {s : State} (hside : s.role.activeSide = true) :
    endAssociation reason peer s =
      { decideHandover (takeoverSent s) (noteSync s (lossFlushed reason peer s)) with keptSwap := none } :=
  (if_pos hside).trans (activeLoss_eq ..)

theorem lossNoted_role (reason : LossReason) (peer : Option PartReason) (s : State) :
    (noteSync s (lossFlushed reason peer s)).role = s.role := by
  rw [noteSync_role, lossFlushed_eq]

/-- Settles O31: the flush gives maps, slots and causes; the windows' moves add theirs. -/
theorem lossProcedures : Obligations.LossProcedures := by
  refine ⟨fun reason peer s hr => ?active, fun reason peer s hna hnh => ?standby, fun d s h hup hna hnh hd => ?silence⟩
  case active =>
    have hside : s.role.activeSide = true := by rw [hr]; rfl
    refine ⟨{ lossFlushed reason peer s with causes := s.causes, keptSwap := none },
      (noteSync s (lossFlushed reason peer s)).causes, ?ends, ?frame, ?port, lossFlushed_maps reason peer s, lossFlushed_slots reason peer s,
      fun c hd hi => lossNoted_hasCause reason peer s hd hi, lossNoted_windowDiverged reason peer hside,
      lossNoted_windowInSync reason peer hside⟩
    case ends =>
      have hstay : decideHandover (takeoverSent s) (noteSync s (lossFlushed reason peer s)) = noteSync s (lossFlushed reason peer s) :=
        if_neg (by rw [lossNoted_role, hr]; nofun)
      rw [endAssociation_activeSide reason peer hside, hstay, noteSync_eq]
    case frame =>
      exact congrArg (fun x : State => { x with causes := s.causes, keptSwap := none }) (lossFlushed_eq reason peer s)
    case port => exact lossFlushed_port reason peer s
  case standby => exact endAssociation_standbySide reason peer (Role.activeSide_eq_false_of hna hnh)
  case silence =>
    refine next_settled (f := expireSilence) h ?_
    rw [expireSilence, if_pos (by rw [hd, (standbyUp_iff s).2 ⟨hup, Role.activeSide_eq_false_of hna hnh⟩]; rfl)]
    simp only [enterLinkState, representHeld_eq]
    rfl

/-! ## A handover in progress at a loss (R12, R135) -/

theorem answerDeferred_eq (s : State) : answerDeferred s = { s with
    link.deferredJoin := (answerDeferred s).link.deferredJoin, link.tx := (answerDeferred s).link.tx
    link.txQueue := (answerDeferred s).link.txQueue, causes := (answerDeferred s).causes } := by
  unfold answerDeferred
  split
  · rw [sendFrame_eq]
  · rw [sendFrame_eq]
  · rw [denyConflict, sendFrame_eq]
    rfl
  · rfl

theorem hasCause_answerDeferred {c : Cause} (hc : c ≠ .roleConflict) (s : State) : hasCause (answerDeferred s) c = hasCause s c := by
  unfold answerDeferred
  split
  · rw [hasCause, sendFrame_causes]
    rfl
  · rw [hasCause, sendFrame_causes]
    rfl
  · rw [denyConflict, hasCause_setCause, decide_eq_false hc, Bool.or_false, hasCause, sendFrame_causes]
    rfl
  · rfl

/-- The fields a change of role writes. -/
theorem changeRole_fields (new : Role) (s : State) : changeRole new s = { s with
    upstream := s.upstream.represented, stallTimer := s.upstream.timerRepresented s.stallTimer, role := new
    link.joinSuspended := false, keptSwap := none, resync := (assigned new s).resync, port := (assigned new s).port
    maps := mapsAfterRole new s, journal := (assigned new s).journal
    link.deferredJoin := (changeRole new s).link.deferredJoin, link.tx := (changeRole new s).link.tx
    link.txQueue := (changeRole new s).link.txQueue, causes := (changeRole new s).causes } := by
  have hassigned : assigned new s = { s with
      upstream := s.upstream.represented, stallTimer := s.upstream.timerRepresented s.stallTimer, role := new
      link.joinSuspended := false, keptSwap := none, resync := (assigned new s).resync, port := (assigned new s).port
      maps := mapsAfterRole new s, journal := (assigned new s).journal } := by
    simp only [assigned, representHeld_eq]
  rw [changeRole_eq]
  refine (answerDeferred_eq (assigned new s)).trans ?_
  exact congrArg (fun x : State => { x with
    link.deferredJoin := (answerDeferred (assigned new s)).link.deferredJoin, link.tx := (answerDeferred (assigned new s)).link.tx
    link.txQueue := (answerDeferred (assigned new s)).link.txQueue, causes := (answerDeferred (assigned new s)).causes }) hassigned

theorem assigned_journal {s : State} (h : s.journal = []) (new : Role) : (assigned new s).journal = [] :=
  (congrArg (fun j => if (s.role = .active ∨ s.role = .handingOver) ∧ new ≠ .active ∧ new ≠ .handingOver then [] else j) h).trans
    (ite_self _)

theorem assigned_resync {s : State} (h : s.resync = .idle) (new : Role) : (assigned new s).resync = .idle :=
  (congrArg (fun x => if s.role = .active ∧ new ≠ .active then Resync.idle else x) h).trans (ite_self _)

theorem hasCause_changeRole {c : Cause} (hc : c ≠ .roleConflict) (new : Role) (s : State) :
    hasCause (changeRole new s) c = hasCause s c := by
  rw [changeRole_eq, hasCause_answerDeferred hc, assigned, hasCause, representHeld_causes, hasCause]

theorem hasCause_faultHeld {c : Cause} (hc : c ≠ .writeRefused) (s : State) : hasCause (faultHeld s) c = hasCause s c := by
  unfold faultHeld
  split
  · rw [hasCause_setCause, decide_eq_false hc, Bool.or_false]
    rfl
  all_goals rfl

theorem faultHeld_eq (s : State) : faultHeld s = { s with
    upstream := (faultHeld s).upstream, ending := (faultHeld s).ending, stallTimer := (faultHeld s).stallTimer
    causes := (faultHeld s).causes, windowStats := (faultHeld s).windowStats } := by
  unfold faultHeld
  split <;> rfl

/-- The state in which the role controller changes the role at a loss (R135). -/
def roleDecider (sent : Bool) (y : State) : State := { if sent then faultHeld y else y with handoverTimer := none }

theorem decideHandover_eq (sent : Bool) {y : State} (hr : y.role = .handingOver) :
    decideHandover sent y =
      if sent then setCause .fenced (setCause .handoverFailed (changeRole .fenced (roleDecider true y)))
      else setCause .handoverFailed (changeRole .active (roleDecider false y)) := if_pos hr

/-- The role after a handover was in progress at a loss (R135). -/
def roleDecided (sent : Bool) : Role := if sent then .fenced else .active

theorem roleDecider_eq (sent : Bool) (y : State) : roleDecider sent y = { y with
    upstream := (roleDecider sent y).upstream, ending := (roleDecider sent y).ending
    stallTimer := (roleDecider sent y).stallTimer, causes := (roleDecider sent y).causes
    windowStats := (roleDecider sent y).windowStats, handoverTimer := none } := by
  cases sent with
  | false => rfl
  | true => exact congrArg (fun x : State => { x with handoverTimer := none }) (faultHeld_eq y)

theorem hasCause_roleDecider {c : Cause} (hc : c ≠ .writeRefused) (sent : Bool) (y : State) :
    hasCause (roleDecider sent y) c = hasCause y c := by
  cases sent with
  | false => rfl
  | true => exact hasCause_faultHeld hc y

section Handover

variable (reason : LossReason) (peer : Option PartReason) {s : State} (hr : s.role = .handingOver)
include hr

theorem endAssociation_sent (hsent : takeoverSent s = true) :
    endAssociation reason peer s = { setCause .fenced (setCause .handoverFailed
      (changeRole .fenced (roleDecider true (noteSync s (lossFlushed reason peer s))))) with keptSwap := none } := by
  rw [endAssociation_activeSide reason peer (by rw [hr]; rfl), decideHandover_eq _ ((lossNoted_role ..).trans hr), if_pos hsent]

theorem endAssociation_unsent (hsent : takeoverSent s = false) :
    endAssociation reason peer s = { setCause .handoverFailed
      (changeRole .active (roleDecider false (noteSync s (lossFlushed reason peer s)))) with keptSwap := none } := by
  rw [endAssociation_activeSide reason peer (by rw [hr]; rfl), decideHandover_eq _ ((lossNoted_role ..).trans hr), hsent]
  rfl

/-- Either way the change of role is the last step that writes a field but for causes and the kept SWAP ASEQ. -/
theorem endAssociation_decided : endAssociation reason peer s =
    { changeRole (roleDecided (takeoverSent s)) (roleDecider (takeoverSent s) (noteSync s (lossFlushed reason peer s))) with
      keptSwap := none, causes := (endAssociation reason peer s).causes } := by
  cases hsent : takeoverSent s with
  | true =>
    have hnew : roleDecided true = .fenced := rfl
    rw [endAssociation_sent reason peer hr hsent, hnew]
    generalize changeRole .fenced (roleDecider true _) = r
    rfl
  | false =>
    have hnew : roleDecided false = .active := rfl
    rw [endAssociation_unsent reason peer hr hsent, hnew]
    generalize changeRole .active (roleDecider false _) = r
    rfl

/-- The fields of the part after a loss in HANDING_OVER. -/
theorem endAssociation_fields : endAssociation reason peer s = { s with
    link.lastLoss := reason, link.peerPart := peer, linkStats.lost := s.linkStats.lost + 1
    link.peerHold := false, link.replyTimer := none, link.quietTimer := .stopped, link.retry := 0, link.joinSuspended := false
    link.deferredJoin := (endAssociation reason peer s).link.deferredJoin
    link.tx := (endAssociation reason peer s).link.tx, link.txQueue := (endAssociation reason peer s).link.txQueue
    journal := [], resync := .idle, handoverTimer := none, keptSwap := none, role := roleDecided (takeoverSent s)
    slots := (lossFlushed reason peer s).slots, port := (endAssociation reason peer s).port
    maps := (endAssociation reason peer s).maps, causes := (endAssociation reason peer s).causes
    upstream := (endAssociation reason peer s).upstream, ending := (endAssociation reason peer s).ending
    stallTimer := (endAssociation reason peer s).stallTimer, windowStats := (endAssociation reason peer s).windowStats } := by
  have hdecided := endAssociation_decided reason peer hr
  have hlost := lossFlushed_eq reason peer s
  have hnoted := noteSync_eq s (lossFlushed reason peer s)
  generalize endAssociation reason peer s = t at hdecided ⊢
  generalize takeoverSent s = sent at hdecided ⊢
  generalize noteSync s (lossFlushed reason peer s) = y at hdecided hnoted
  generalize lossFlushed reason peer s = x at hlost hnoted ⊢
  have hdecider := roleDecider_eq sent y
  generalize roleDecider sent y = d at hdecided hdecider
  rw [hlost] at hnoted
  dsimp only at hnoted
  rw [hnoted] at hdecider
  dsimp only at hdecider
  have hchanged := changeRole_fields (roleDecided sent) d
  rw [assigned_journal (by rw [hdecider]), assigned_resync (by rw [hdecider])] at hchanged
  generalize changeRole (roleDecided sent) d = r at hdecided hchanged
  rw [hchanged] at hdecided
  dsimp only at hdecided
  generalize (assigned (roleDecided sent) d).port = port at hdecided
  generalize mapsAfterRole (roleDecided sent) d = maps at hdecided
  rw [hdecider] at hdecided
  dsimp only at hdecided
  rw [hdecided]

theorem endAssociation_hasCause {c : Cause} (hc : c ≠ .roleConflict) (hw : c ≠ .writeRefused) (hh : c ≠ .handoverFailed)
    (hf : c ≠ .fenced) : hasCause (endAssociation reason peer s) c = hasCause (noteSync s (lossFlushed reason peer s)) c := by
  have hkept (new : Role) (sent : Bool) : hasCause (changeRole new (roleDecider sent (noteSync s (lossFlushed reason peer s)))) c =
      hasCause (noteSync s (lossFlushed reason peer s)) c := by
    rw [hasCause_changeRole hc, hasCause_roleDecider hw]
  cases hsent : takeoverSent s with
  | true =>
    have hkept := hkept .fenced true
    rw [endAssociation_sent reason peer hr hsent]
    generalize changeRole .fenced (roleDecider true _) = r at hkept ⊢
    show hasCause (setCause .fenced (setCause .handoverFailed r)) c = _
    rw [hasCause_setCause, hasCause_setCause, decide_eq_false hf, decide_eq_false hh, Bool.or_false, Bool.or_false, hkept]
  | false =>
    have hkept := hkept .active false
    rw [endAssociation_unsent reason peer hr hsent]
    generalize changeRole .active (roleDecider false _) = r at hkept ⊢
    show hasCause (setCause .handoverFailed r) c = _
    rw [hasCause_setCause, decide_eq_false hh, Bool.or_false, hkept]

theorem endAssociation_handoverFailed : hasCause (endAssociation reason peer s) .handoverFailed = true := by
  have hset (x : State) : hasCause (setCause .handoverFailed x) .handoverFailed = true := by
    rw [hasCause_setCause, decide_eq_true rfl, Bool.or_true]
  cases hsent : takeoverSent s with
  | true =>
    rw [endAssociation_sent reason peer hr hsent]
    generalize changeRole .fenced (roleDecider true _) = r
    show hasCause (setCause .fenced (setCause .handoverFailed r)) .handoverFailed = true
    rw [hasCause_setCause, hset, Bool.true_or]
  | false =>
    rw [endAssociation_unsent reason peer hr hsent]
    generalize changeRole .active (roleDecider false _) = r
    show hasCause (setCause .handoverFailed r) .handoverFailed = true
    exact hset r

theorem endAssociation_fenced (hsent : takeoverSent s = true) : hasCause (endAssociation reason peer s) .fenced = true := by
  rw [endAssociation_sent reason peer hr hsent]
  generalize changeRole .fenced (roleDecider true _) = r
  refine (hasCause_setCause .fenced .fenced (setCause .handoverFailed r)).trans ?_
  rw [decide_eq_true rfl, Bool.or_true]

theorem endAssociation_not_fenced (hsent : takeoverSent s = false) :
    hasCause (endAssociation reason peer s) .fenced = hasCause s .fenced := by
  have hkept : hasCause (changeRole .active (roleDecider false (noteSync s (lossFlushed reason peer s)))) .fenced = hasCause s .fenced := by
    rw [hasCause_changeRole (c := .fenced) nofun, hasCause_roleDecider (c := .fenced) nofun, Bool.eq_iff_iff,
      lossNoted_hasCause (c := .fenced) reason peer s nofun nofun]
    simp
  rw [endAssociation_unsent reason peer hr hsent]
  generalize changeRole .active (roleDecider false _) = r at hkept ⊢
  show hasCause (setCause .handoverFailed r) .fenced = _
  rw [hasCause_setCause, hkept, decide_eq_false nofun, Bool.or_false]

omit hr in
/-- The upstream access and the counters of the windows as the role controller finds them. -/
theorem lossNoted_upstream : (noteSync s (lossFlushed reason peer s)).upstream = s.upstream ∧
    (noteSync s (lossFlushed reason peer s)).windowStats = s.windowStats := by
  rw [noteSync_eq, lossFlushed_eq]
  exact ⟨rfl, rfl⟩

/-- FENCED: every map is empty, and a write held for the handover is faulted (R12, R110). -/
theorem endAssociation_sent_fields (hsent : takeoverSent s = true) :
    (∀ w : WindowId, (endAssociation reason peer s).maps[w] = 0#64) ∧
    ∀ a w, s.upstream = .held a w .handover →
      (endAssociation reason peer s).upstream = .none ∧ (endAssociation reason peer s).ending = some .fault ∧
      hasCause (endAssociation reason peer s) .writeRefused = true ∧
      (endAssociation reason peer s).windowStats =
        s.windowStats.set w { s.windowStats[w] with refused := s.windowStats[w].refused + 1 } := by
  have hrole : (roleDecider true (noteSync s (lossFlushed reason peer s))).role = .handingOver := by
    rw [roleDecider_eq]
    exact (lossNoted_role ..).trans hr
  obtain ⟨hupstream, hstats⟩ := lossNoted_upstream reason peer (s := s)
  have hfaulted (a : Access) (w : WindowId) (hu : s.upstream = .held a w .handover) :
      roleDecider true (noteSync s (lossFlushed reason peer s)) =
        { setCause .writeRefused (countRefused w { noteSync s (lossFlushed reason peer s) with
          upstream := .none, ending := some .fault, stallTimer := none }) with handoverTimer := none } := by
    refine congrArg (fun x : State => { x with handoverTimer := none }) ?_
    show faultHeld _ = _
    rw [faultHeld, hupstream, hu]
  rw [endAssociation_sent reason peer hr hsent]
  generalize noteSync s (lossFlushed reason peer s) = y at hrole hstats hfaulted ⊢
  refine ⟨fun w => ?_, fun a w hu => ?_⟩
  · show (changeRole .fenced (roleDecider true y)).maps[w] = 0#64
    rw [changeRole_maps, mapsAfterRole, if_pos ⟨.inr hrole, nofun, nofun⟩]
    simp
  · rw [hfaulted a w hu]
    generalize hd : ({ setCause .writeRefused (countRefused w { y with
      upstream := .none, ending := some .fault, stallTimer := none }) with handoverTimer := none } : State) = d
    have hfields := changeRole_fields .fenced d
    have hcause : hasCause d .writeRefused = true := by
      rw [← hd]
      show hasCause (setCause .writeRefused _) .writeRefused = true
      rw [hasCause_setCause, decide_eq_true rfl, Bool.or_true]
    have hkept : hasCause (changeRole .fenced d) .writeRefused = true := by
      rw [hasCause_changeRole (c := .writeRefused) nofun, hcause]
    generalize changeRole .fenced d = r at hfields hkept ⊢
    refine ⟨?_, ?_, ?_, ?_⟩
    · refine (congrArg State.upstream hfields).trans ?_
      rw [← hd]
      rfl
    · refine (congrArg State.ending hfields).trans ?_
      rw [← hd]
      rfl
    · show hasCause (setCause .fenced (setCause .handoverFailed r)) .writeRefused = true
      rw [hasCause_setCause, hasCause_setCause, hkept]
      rfl
    · refine (congrArg State.windowStats hfields).trans ?_
      rw [← hd, ← hstats]
      rfl

/-- ACTIVE again: the marks of the flush stay, and a held write requests the port again (R14). -/
theorem endAssociation_unsent_fields (hsent : takeoverSent s = false) :
    (endAssociation reason peer s).windowStats = s.windowStats ∧
    (endAssociation reason peer s).maps = (lossFlushed reason peer s).maps ∧
    (endAssociation reason peer s).upstream = s.upstream.represented := by
  obtain ⟨hupstream, hstats⟩ := lossNoted_upstream reason peer (s := s)
  have hmaps : (noteSync s (lossFlushed reason peer s)).maps = (lossFlushed reason peer s).maps := noteSync_maps ..
  rw [endAssociation_unsent reason peer hr hsent]
  generalize noteSync s (lossFlushed reason peer s) = y at hupstream hstats hmaps ⊢
  have hfields := changeRole_fields .active (roleDecider false y)
  refine ⟨(congrArg State.windowStats hfields).trans hstats, ?_, ?_⟩
  · refine (changeRole_maps .active (roleDecider false y)).trans ?_
    rw [mapsAfterRole_active]
    exact hmaps
  · exact (congrArg State.upstream hfields).trans (congrArg Upstream.represented hupstream)

end Handover

/-- Settles O32: whether the TAKEOVER was SENT decides the role; the flush and the notes of the loss are as in O31. -/
theorem handoverAtLoss : Obligations.HandoverAtLoss := by
  intro reason peer s t hr ht
  have hside : s.role.activeSide = true := by rw [hr]; rfl
  have hfields := endAssociation_fields reason peer hr
  have hnoted (c : Cause) (hd : c ≠ .windowDiverged) (hi : c ≠ .windowInSync) := lossNoted_hasCause reason peer s hd hi
  have hcause (c : Cause) := endAssociation_hasCause reason peer hr (c := c)
  have hrole : t.role = roleDecided (takeoverSent s) := by rw [ht, hfields]
  rw [← ht] at hfields
  refine ⟨by rw [hfields], by rw [hfields], by rw [hfields], ht ▸ endAssociation_handoverFailed reason peer hr, ?linkLost, by rw [hfields],
    by rw [hfields], by rw [hfields], by rw [hfields], by rw [hfields], by rw [hfields], by rw [hfields], by rw [hfields], by rw [hfields],
    by rw [hfields], by rw [hfields], by rw [hfields], by rw [hfields], by rw [hfields], by rw [hfields], by rw [hfields], fun i => ?slots,
    ?failed, fun hmarked => ?diverged, fun hsent => ?fenced, fun hno => ?active⟩
  case linkLost =>
    rw [ht, hcause .linkLost nofun nofun nofun nofun]
    exact (hnoted .linkLost nofun nofun).2 (.inr (.inl rfl))
  case slots =>
    have hslots : t.slots = (lossFlushed reason peer s).slots := by rw [hfields]
    rw [hslots]
    exact lossFlushed_slots reason peer s i
  case failed =>
    rw [ht, hcause .checkpointFailed nofun nofun nofun nofun]
    refine (hnoted .checkpointFailed nofun nofun).trans (or_congr_right ?_)
    simp
  case diverged =>
    obtain ⟨w, hsync, e, he, line, bytes, hb, hmatch, hlt⟩ := hmarked
    rw [ht, hcause .windowDiverged nofun nofun nofun nofun]
    refine (lossNoted_windowDiverged reason peer hside).2 (.inr ⟨w, hsync, fun hzero => ?_⟩)
    have hmark := (lossFlushed_maps reason peer s w _).2 (.inr (.inl ⟨hlt, e, he, line, .inl ⟨bytes, hb⟩, hmatch, rfl⟩))
    rw [hzero] at hmark
    simp at hmark
  case fenced =>
    have hsent := (takeoverSent_iff s).2 hsent
    obtain ⟨hmaps, hheld⟩ := endAssociation_sent_fields reason peer hr hsent
    rw [hsent] at hrole
    rw [← ht] at hmaps hheld
    exact ⟨hrole, ht ▸ endAssociation_fenced reason peer hr hsent, hmaps, hheld⟩
  case active =>
    have hsent : takeoverSent s = false := Bool.eq_false_iff.2 fun hc => by
      obtain ⟨e, he, hb, q, n, hs⟩ := (takeoverSent_iff s).1 hc
      exact hno e he hb q n hs
    obtain ⟨hstats, hmaps, hupstream⟩ := endAssociation_unsent_fields reason peer hr hsent
    rw [hsent] at hrole
    rw [← ht] at hstats hmaps hupstream
    refine ⟨hrole, ht ▸ endAssociation_not_fenced reason peer hr hsent, hstats, fun w k => ?_, fun a w hu => ?_⟩
    · rw [hmaps]
      exact lossFlushed_maps reason peer s w k
    · rw [hupstream, hu]
      rfl

end Sys2Proof.Machine

/-! # The frames of the mirror link (O51, O53) -/

namespace Sys2Proof.Machine

open Sys2Proof

/-! ## The check value (R179) -/

/-- A register fed with its own highest bit shifts without the polynomial. -/
theorem crcBit_shiftLeft (c : BitVec 16) {i : Nat} (h : i < 16) : crcBit (c <<< i) (c.getLsbD (15 - i)) = c <<< (i + 1) := by
  have hmsb : (c <<< i).msb = c.getLsbD (15 - i) := by
    rw [BitVec.msb_shiftLeft, BitVec.getMsbD_eq_getLsbD, decide_eq_true h, Bool.true_and]
  simp only [crcBit, hmsb, bne_self_eq_false, Bool.false_eq_true, if_false, BitVec.shiftLeft_add]

/-- A byte of the register's own bits, from place `i` down, shifts the register by eight. -/
theorem crcByte_extractLsb' (c : BitVec 16) {i : Nat} (h : i ≤ 8) : crcByte (c <<< i) (c.extractLsb' (8 - i) 8) = c <<< (i + 8) := by
  have hbit : ∀ k < 8, crcBit (c <<< (i + k)) ((c.extractLsb' (8 - i) 8).getLsbD (7 - k)) = c <<< (i + (k + 1)) := by
    intro k hk
    have hplace : (c.extractLsb' (8 - i) 8).getLsbD (7 - k) = c.getLsbD (15 - (i + k)) := by
      rw [BitVec.getLsbD_extractLsb', decide_eq_true (by omega), Bool.true_and]
      congr 1
      omega
    rw [hplace, crcBit_shiftLeft c (by omega), Nat.add_assoc]
  simp only [crcByte, List.foldl_cons, List.foldl_nil]
  rw [show c <<< i = c <<< (i + 0) from rfl, hbit 0 (by omega), hbit 1 (by omega), hbit 2 (by omega), hbit 3 (by omega),
    hbit 4 (by omega), hbit 5 (by omega), hbit 6 (by omega), hbit 7 (by omega)]

/-- R179: the register over a body with its check value appended is 0. -/
theorem crc16_append_self (bytes : List Byte) : crc16 (bytes ++ bytesOf16 (crc16 bytes)) = 0#16 := by
  generalize hc : crc16 bytes = c
  have hrun : crc16 (bytes ++ bytesOf16 c) = crcByte (crcByte c (c.extractLsb' 8 8)) (c.extractLsb' 0 8) := by
    rw [← hc, crc16, crc16, List.foldl_append]
    rfl
  have hhigh : crcByte c (c.extractLsb' 8 8) = c <<< 8 := by simpa using crcByte_extractLsb' c (i := 0) (by omega)
  have hlow : crcByte (c <<< 8) (c.extractLsb' 0 8) = c <<< 16 := crcByte_extractLsb' c (i := 8) (by omega)
  rw [hrun, hhigh, hlow]
  exact BitVec.shiftLeft_eq_zero (by omega)

@[simp] theorem length_closeBody (fields : List Byte) : (closeBody fields).length = fields.length + 2 := by
  simp [closeBody, bytesOf16]

/-- The fields of a closed body. -/
theorem take_closeBody (fields : List Byte) : (closeBody fields).take ((closeBody fields).length - 2) = fields := by
  rw [length_closeBody, Nat.add_sub_cancel, closeBody, List.take_left]

/-- R50: a body closed by its own check value, of a length the manual allows, is the frame of its fields. -/
theorem decodeBody_closeBody (kind flags : Byte) {fields : List Byte} (h : fields.length ≤ 77) :
    decodeBody (closeBody (kind :: flags :: fields)) = decodeFields kind flags fields := by
  have hlen : 4 ≤ (closeBody (kind :: flags :: fields)).length ∧ (closeBody (kind :: flags :: fields)).length ≤ 81 := by
    simp only [length_closeBody, List.length_cons]
    omega
  rw [decodeBody, take_closeBody]
  exact if_pos ⟨hlen.1, hlen.2, rfl⟩

/-! ## The numbers of a frame, byte by byte (R180, R181) -/

/-- The bytes of a number put together again: two neighbouring runs of bits make one. -/
theorem bytesOf24_append (x : BitVec 24) : x.extractLsb' 16 8 ++ x.extractLsb' 8 8 ++ x.extractLsb' 0 8 = x := by
  rw [BitVec.extractLsb'_append_extractLsb'_eq_extractLsb' (start₁ := 8) (len₁ := 8) rfl,
    BitVec.extractLsb'_append_extractLsb'_eq_extractLsb' (start₁ := 0) (len₁ := 8) rfl]
  exact BitVec.extractLsb'_eq_self

theorem bytesOf64_append (x : BitVec 64) :
    x.extractLsb' 56 8 ++ x.extractLsb' 48 8 ++ x.extractLsb' 40 8 ++ x.extractLsb' 32 8 ++
      x.extractLsb' 24 8 ++ x.extractLsb' 16 8 ++ x.extractLsb' 8 8 ++ x.extractLsb' 0 8 = x := by
  rw [BitVec.extractLsb'_append_extractLsb'_eq_extractLsb' (start₁ := 48) (len₁ := 8) rfl,
    BitVec.extractLsb'_append_extractLsb'_eq_extractLsb' (start₁ := 40) (len₁ := 8) rfl,
    BitVec.extractLsb'_append_extractLsb'_eq_extractLsb' (start₁ := 32) (len₁ := 8) rfl,
    BitVec.extractLsb'_append_extractLsb'_eq_extractLsb' (start₁ := 24) (len₁ := 8) rfl,
    BitVec.extractLsb'_append_extractLsb'_eq_extractLsb' (start₁ := 16) (len₁ := 8) rfl,
    BitVec.extractLsb'_append_extractLsb'_eq_extractLsb' (start₁ := 8) (len₁ := 8) rfl,
    BitVec.extractLsb'_append_extractLsb'_eq_extractLsb' (start₁ := 0) (len₁ := 8) rfl]
  exact BitVec.extractLsb'_eq_self

/-- R180: a line number survives its 24-bit field. -/
theorem lineOf_lineBytes (line : LineNo) :
    lineOf ((line.setWidth 24).extractLsb' 16 8) ((line.setWidth 24).extractLsb' 8 8) ((line.setWidth 24).extractLsb' 0 8) = line := by
  rw [lineOf, bytesOf24_append, BitVec.setWidth_setWidth_of_le _ (by omega), BitVec.setWidth_eq]

/-! ## The byte mask of a WRITE record (R180) -/

theorem getLsbD_foldl_mask (bytes : List (Nat × Byte)) (m : BitVec 64) (k : Nat) :
    (bytes.foldl (fun m c => m ||| BitVec.twoPow 64 c.1) m).getLsbD k = true ↔
      m.getLsbD k = true ∨ (k < 64 ∧ k ∈ bytes.map Prod.fst) := by
  induction bytes generalizing m with
  | nil => simp
  | cons c rest ih =>
    rw [List.foldl_cons, ih, BitVec.getLsbD_or, BitVec.getLsbD_twoPow]
    simp only [Bool.or_eq_true, Bool.and_eq_true, decide_eq_true_eq, List.map_cons, List.mem_cons]
    constructor
    · rintro ((hm | ⟨hlt, rfl⟩) | ⟨hlt, hmem⟩)
      · exact .inl hm
      · exact .inr ⟨hlt, .inl rfl⟩
      · exact .inr ⟨hlt, .inr hmem⟩
    · rintro (hm | ⟨hlt, rfl | hmem⟩)
      · exact .inl (.inl hm)
      · exact .inl (.inr ⟨hlt, rfl⟩)
      · exact .inr ⟨hlt, hmem⟩

/-- A bit of the mask stands for a byte of the record. -/
theorem getLsbD_byteMask (bytes : List (Nat × Byte)) (k : Nat) :
    (byteMask bytes).getLsbD k = true ↔ k < 64 ∧ k ∈ bytes.map Prod.fst := by
  rw [byteMask, getLsbD_foldl_mask]
  simp

/-- Positions that rise stay between their start and 64, and are sorted. -/
theorem positions_of_positionsRise {low : Nat} {bytes : List (Nat × Byte)} (h : positionsRise low bytes = true) :
    (∀ k ∈ bytes.map Prod.fst, low ≤ k ∧ k < 64) ∧ (bytes.map Prod.fst).Pairwise (· < ·) := by
  induction bytes generalizing low with
  | nil => simp
  | cons c rest ih =>
    obtain ⟨⟨hlow, hlt⟩, hrest⟩ := (positionsRise_cons low c rest).1 h
    obtain ⟨hrange, hsorted⟩ := ih hrest
    rw [List.map_cons]
    refine ⟨fun k hk => ?_, List.pairwise_cons.2 ⟨fun k hk => (hrange k hk).1, hsorted⟩⟩
    rcases List.mem_cons.1 hk with rfl | hk
    · exact ⟨hlow, hlt⟩
    · obtain ⟨hge, hlt'⟩ := hrange k hk
      exact ⟨by omega, hlt'⟩

/-- R180: the mask names the positions of the record's bytes, in their order. -/
theorem maskPositions_byteMask {bytes : List (Nat × Byte)} (h : positionsRise 0 bytes = true) :
    maskPositions (byteMask bytes) = bytes.map Prod.fst := by
  obtain ⟨hrange, hsorted⟩ := positions_of_positionsRise h
  refine List.Pairwise.eq_of_mem_iff (r := (· < ·)) (List.pairwise_lt_range.filter _) hsorted fun k => ?_
  rw [maskPositions, List.mem_filter, List.mem_range, getLsbD_byteMask]
  exact ⟨fun hk => hk.2.2, fun hk => ⟨(hrange k hk).2, (hrange k hk).2, hk⟩⟩

/-! ## Records and frames (R179, R180) -/

/-- R180: the fields of a valid record decode to it, and are 1 to 76 bytes. -/
theorem decodeRecord_fields {r : Record} (h : r.valid = true) :
    ∃ type rest, r.fields = type :: rest ∧ rest.length ≤ 75 ∧ decodeRecord type rest = some r := by
  cases r with
  | mark tag slot => exact ⟨_, _, rfl, by simp, rfl⟩
  | takeover => exact ⟨_, _, rfl, by simp, rfl⟩
  | fill line data =>
    have hlen : data.length = 64 := beq_iff_eq.1 h
    refine ⟨_, _, rfl, by simp [lineBytes, bytesOf24, hlen], ?_⟩
    have hdecode : decodeRecord 0x02#8 (lineBytes line ++ data) = if data.length = 64 then
        some (.fill (lineOf ((line.setWidth 24).extractLsb' 16 8) ((line.setWidth 24).extractLsb' 8 8)
          ((line.setWidth 24).extractLsb' 0 8)) data) else none := rfl
    rw [hdecode, if_pos hlen, lineOf_lineBytes]
  | write line bytes =>
    obtain ⟨hne, hrise⟩ : bytes ≠ [] ∧ positionsRise 0 bytes = true := by simpa [Record.valid] using h
    have hlen : bytes.length ≤ 64 := by simpa using length_le_of_positionsRise hrise (by omega)
    refine ⟨_, _, rfl, by simp [lineBytes, bytesOf24, bytesOf64]; omega, ?_⟩
    have hpos : maskPositions ((byteMask bytes).extractLsb' 56 8 ++ (byteMask bytes).extractLsb' 48 8 ++
        (byteMask bytes).extractLsb' 40 8 ++ (byteMask bytes).extractLsb' 32 8 ++ (byteMask bytes).extractLsb' 24 8 ++
        (byteMask bytes).extractLsb' 16 8 ++ (byteMask bytes).extractLsb' 8 8 ++ (byteMask bytes).extractLsb' 0 8) =
          bytes.map Prod.fst := by
      rw [bytesOf64_append, maskPositions_byteMask hrise]
    simp only [decodeRecord, lineBytes, bytesOf24, bytesOf64, List.cons_append, List.nil_append, if_true, hpos,
      lineOf_lineBytes, List.length_map]
    rw [if_pos ⟨by simpa using hne, trivial⟩, ← List.unzip_fst, ← List.unzip_snd, List.zip_unzip]

/-- R179: the kind, the flags and the fields of a frame, and that they decode to it. -/
theorem decodeFields_fields {f : Frame} (h : ∀ q r, f = .record q r → r.valid = true) :
    ∃ kind flags rest, f.fields = kind :: flags :: rest ∧ rest.length ≤ 77 ∧ decodeFields kind flags rest = some f := by
  cases f with
  | join session => exact ⟨_, _, _, rfl, by simp, rfl⟩
  | accept session => exact ⟨_, _, _, rfl, by simp, rfl⟩
  | deny session reason => cases reason <;> exact ⟨_, _, _, rfl, by simp, rfl⟩
  | part reason => cases reason <;> exact ⟨_, _, _, rfl, by simp, rfl⟩
  | closed => exact ⟨_, _, _, rfl, by simp, rfl⟩
  | record tseq r =>
    obtain ⟨type, rest, hfields, hlen, hdecode⟩ := decodeRecord_fields (h tseq r rfl)
    refine ⟨0x21#8, 0#8, tseq :: r.fields, rfl, by simp [hfields]; omega, ?_⟩
    have hrec : decodeFields 0x21#8 0#8 (tseq :: type :: rest) = (decodeRecord type rest).map (.record tseq) := rfl
    rw [hfields, hrec, hdecode, Option.map_some]
  | ack aseq final hold swap =>
    refine ⟨_, _, _, rfl, by simp, ?_⟩
    cases final <;> cases hold <;> cases swap <;> rfl
  | resend aseq rseq hold =>
    refine ⟨_, _, _, rfl, by simp, ?_⟩
    cases hold <;> rfl
  | ask => exact ⟨_, _, _, rfl, by simp, rfl⟩

/-- R50, R179: the body of a frame decodes to it, and has a length the manual allows. -/
theorem decodeBody_body {f : Frame} (h : ∀ q r, f = .record q r → r.valid = true) :
    decodeBody f.body = some f ∧ 4 ≤ f.body.length ∧ f.body.length ≤ 81 := by
  obtain ⟨kind, flags, rest, hfields, hlen, hdecode⟩ := decodeFields_fields h
  have hbody : f.body = closeBody (kind :: flags :: rest) := congrArg closeBody hfields
  refine ⟨hbody ▸ (decodeBody_closeBody kind flags hlen).trans hdecode, ?_⟩
  simp only [hbody, length_closeBody, List.length_cons]
  omega

/-- Settles O51. -/
theorem frameRoundTrip : Obligations.FrameRoundTrip :=
  ⟨fun _ h => decodeBody_body h, crc16_append_self⟩

/-! ## The receiver (R178) -/

/-- The receiver listens: neither the part nor its link is off. -/
def listening (s : State) : Bool := !(s.resetLow || s.link.state == .offline)

/-- Data symbols join an open body. -/
theorem receiveSymbol_data {s : State} (hl : listening s = true) (data body : List Byte) :
    (data.map LineSymbol.data).foldl (fun t x => receiveSymbol x t) { s with link.rxBody := some body } =
      { s with link.rxBody := some (body ++ data) } := by
  have hon : (s.resetLow || s.link.state == .offline) = false := by simpa [listening] using hl
  induction data generalizing body with
  | nil => simp
  | cons b rest ih =>
    have hstep : receiveSymbol (.data b) { s with link.rxBody := some body } = { s with link.rxBody := some (body ++ [b]) } := by
      simp only [receiveSymbol, hon, Bool.false_eq_true, if_false]
    rw [List.map_cons, List.foldl_cons, hstep, ih, List.append_assoc, List.singleton_append]

/-- R178: a body from its FS to its FE is the event it is, behind the waiting commands. -/
theorem receiveSymbol_body {s : State} (hl : listening s = true) (hb : s.link.rxBody = none) (body : List Byte) :
    (LineSymbol.fs :: body.map LineSymbol.data ++ [LineSymbol.fe]).foldl (fun t x => receiveSymbol x t) s =
      { s with pending := s.pending ++ [bodyEvent body] } := by
  have hon : (s.resetLow || s.link.state == .offline) = false := by simpa [listening] using hl
  have hopen : receiveSymbol .fs s = { s with link.rxBody := some [] } := by
    simp only [receiveSymbol, hon, Bool.false_eq_true, if_false, hb]
  have hclose : receiveSymbol .fe { s with link.rxBody := some body } =
      enqueue (bodyEvent body) { s with link.rxBody := none } := by
    simp only [receiveSymbol, hon, Bool.false_eq_true, if_false]
  rw [List.cons_append, List.foldl_cons, List.foldl_append, hopen, receiveSymbol_data hl, List.nil_append,
    List.foldl_cons, List.foldl_nil, hclose, ← hb]
  rfl

/-- R50: OFFLINE nothing on the line changes the part. -/
theorem receiveSymbol_offline {s : State} (ho : s.link.state = .offline) (hb : s.link.rxBody = none) (x : LineSymbol) :
    receiveSymbol x s = s := by
  have hoff : (s.resetLow || s.link.state == .offline) = true := by simp [ho]
  have hstep : receiveSymbol x s = { s with link.rxBody := none } := if_pos hoff
  rw [hstep, ← hb]

/-- Settles O53. -/
theorem lineReceiver : Obligations.LineReceiver := by
  intro f s hf hlow hb
  constructor
  · intro hon
    have hevent : bodyEvent f.body = f.received := by rw [bodyEvent, (decodeBody_body hf).1]
    rw [← hevent]
    exact receiveSymbol_body (by simp [listening, hlow, hon]) hb f.body
  · intro ho
    induction frameSymbols f with
    | nil => rfl
    | cons x rest ih => rw [List.foldl_cons, receiveSymbol_offline ho hb, ih]

end Sys2Proof.Machine

/-! # The transfers of the management port (O52) -/

namespace Sys2Proof.Machine

open Sys2Proof

/-! ## The bytes of a command (R163, R182) -/

/-- R182: the parameter bytes of a command are those its code names. -/
theorem commandShape_of_transferBytes {i : Instr} {code : Byte} {params : List Byte} (hu : ∀ c, i ≠ .unknown c)
    (h : transferBytes i = some (code :: params)) : ∃ n, commandShape code = some (params.length, n) := by
  cases i
  case unknown c => exact absurd rfl (hu c)
  all_goals
    simp only [transferBytes, reduceCtorEq, Option.some.injEq, List.cons_append, List.cons.injEq] at h
  all_goals
    obtain ⟨rfl, rfl⟩ := h
    exact ⟨_, rfl⟩

/-- R182: the code and the parameters of a command decode to it. -/
theorem decodeCommand_of_transferBytes {i : Instr} {code : Byte} {params : List Byte} (hw : i.wellFormed = true)
    (hu : ∀ c, i ≠ .unknown c) (h : transferBytes i = some (code :: params)) : decodeCommand code params = some i := by
  cases i
  case unknown c => exact absurd rfl (hu c)
  all_goals
    simp only [transferBytes, reduceCtorEq, Option.some.injEq, List.cons_append, List.cons.injEq] at h
  case clearCauses named =>
    obtain ⟨rfl, rfl⟩ := h
    exact congrArg (fun x => some (Instr.clearCauses x)) (bytesOf16_append named)
  case writeCauseMask newMask =>
    obtain ⟨rfl, rfl⟩ := h
    exact congrArg (fun x => some (Instr.writeCauseMask x)) (bytesOf16_append newMask)
  case writeWindow number mode base sizeExp policy =>
    obtain ⟨rfl, rfl⟩ := h
    exact congrArg (fun x => some (Instr.writeWindow number mode x sizeExp policy)) (bytesOf24_append base)
  case writePathParameters stall fairness reserve handoverTime =>
    obtain ⟨rfl, rfl⟩ := h
    exact congrArg (fun x => some (Instr.writePathParameters x fairness reserve handoverTime)) (bytesOf16_append stall)
  case linkControlEnable operation =>
    obtain ⟨rfl, rfl⟩ := h
    exact congrArg some (if_pos (beq_iff_eq.1 hw))
  case linkControlDisable operation =>
    obtain ⟨rfl, rfl⟩ := h
    exact congrArg some (if_neg (bne_iff_ne.1 hw))
  all_goals (obtain ⟨rfl, rfl⟩ := h; rfl)

/-- R163: every command but an unknown code has its shape, its bytes and its decoding; an unknown code has no shape. -/
theorem transferBytes_cases {i : Instr} {bytes : List Byte} (hw : i.wellFormed = true) (h : transferBytes i = some bytes) :
    (∃ code, i = .unknown code ∧ bytes = [code] ∧ commandShape code = none) ∨
      ∃ code params n, bytes = code :: params ∧ commandShape code = some (params.length, n) ∧
        decodeCommand code params = some i := by
  by_cases hu : ∃ c, i = .unknown c
  case pos =>
    obtain ⟨c, rfl⟩ := hu
    exact .inl ⟨c, rfl, (Option.some.inj h).symm, Option.isNone_iff_eq_none.1 hw⟩
  case neg =>
    have hu : ∀ c, i ≠ .unknown c := fun c hc => hu ⟨c, hc⟩
    have hne : bytes ≠ [] := by
      rintro rfl
      cases i <;> simp [transferBytes] at h
    obtain ⟨code, params, rfl⟩ := List.exists_cons_of_ne_nil hne
    obtain ⟨n, hshape⟩ := commandShape_of_transferBytes hu h
    exact .inr ⟨code, params, n, rfl, hshape, decodeCommand_of_transferBytes hw hu h⟩

/-- R163: the whole bytes of a command, closed at their end, are the command. -/
theorem decodeTransfer_of_transferBytes {i : Instr} {bytes : List Byte} (hw : i.wellFormed = true)
    (h : transferBytes i = some bytes) : decodeTransfer bytes false = some i := by
  rcases transferBytes_cases hw h with ⟨code, rfl, rfl, hnone⟩ | ⟨code, params, n, rfl, hshape, hdecode⟩
  · simp only [decodeTransfer, hnone]
  · simp only [decodeTransfer, hshape, le_refl, or_true, and_self, if_true, hdecode]

/-- R163: a command cut short inside its parameters is a FRAMING with its code. -/
theorem decodeTransfer_cut {code : Byte} {params cut : List Byte} {n : Nat} (hshape : commandShape code = some (params.length, n))
    (hcut : cut <+: params) (hne : cut ≠ params) (inside : Bool) :
    decodeTransfer (code :: cut) inside = some (.framing (some code)) := by
  have hlt : ¬ params.length ≤ cut.length := fun hge => hne (hcut.eq_of_length_le hge)
  simp only [decodeTransfer, hshape, hlt, false_and, if_false]

/-! ## When a command takes effect (R163) -/

/-- A command with data-out takes effect at the end of its parameters. -/
theorem effectAt_whole {code : Byte} {params : List Byte} {n : Nat} (hshape : commandShape code = some (params.length, n))
    (hn : n ≠ 0) : effectAt (code :: params) = decodeCommand code params := by
  simp only [effectAt, hshape, ne_eq, hn, not_false_eq_true, and_self, if_true]

/-- Nothing takes effect before the end of the parameters, and a command without data-out not before CS# rises. -/
theorem effectAt_before {code : Byte} {params cut : List Byte} {n : Nat} (hshape : commandShape code = some (params.length, n))
    (h : cut.length < params.length ∨ n = 0) : effectAt (code :: cut) = none := by
  have hnot : ¬ (n ≠ 0 ∧ cut.length = params.length) := by omega
  simp only [effectAt, hshape, if_neg hnot]

/-- An unknown code takes no effect at a byte's end. -/
theorem effectAt_unknown {code : Byte} (h : commandShape code = none) (params : List Byte) : effectAt (code :: params) = none := by
  simp only [effectAt, h]

/-! ## Bits and bytes (R162) -/

/-- The bits of a byte in the order they are shifted, most significant first. -/
def byteBits (b : Byte) : List Bool := ([7, 6, 5, 4, 3, 2, 1, 0] : List Nat).map fun k => b.getLsbD k

/-- A byte shifted in bit by bit is the byte. -/
theorem byteOfBits_byteBits (b : Byte) : byteOfBits (byteBits b) = b := by
  refine BitVec.eq_of_getLsbD_eq fun k hk => ?_
  simp only [byteOfBits, byteBits, List.map_cons, List.map_nil, List.foldl_cons, List.foldl_nil]
  interval_cases k <;> simp

/-- The two edges of SCK around a bit, in the order of the SPI mode (R162). -/
def clockBit (mode0 : Bool) (t : State) (bit : Bool) : State := if mode0 then sckFall (sckRise bit t) else sckRise bit (sckFall t)

/-- The part with a transfer open. -/
def withTransfer (x : Transfer) (s : State) : State := { s with spi := .shifting x }

section Edges

variable {s : State} (hlow : s.resetLow = false)
include hlow

theorem sckFall_withTransfer (x : Transfer) :
    sckFall (withTransfer x s) = withTransfer { x with clocked := true, sdo := nextSdo x s.dataOut } s := by
  simp only [sckFall, withTransfer, hlow, Bool.false_eq_true, if_false]

/-- A rising edge inside a byte. -/
theorem sckRise_bit (bit : Bool) {x : Transfer} (h : x.bits.length ≠ 7) :
    sckRise bit (withTransfer x s) = withTransfer { x with clocked := true, bits := x.bits ++ [bit] } s := by
  have hlen : ¬ (x.bits ++ [bit]).length = 8 := by
    rw [List.length_append, List.length_singleton]
    omega
  simp only [sckRise, withTransfer, hlow, Bool.false_eq_true, if_false, hlen]

/-- A rising edge that ends a byte at which no command takes effect. -/
theorem sckRise_byte (bit : Bool) {x : Transfer} (h : x.bits.length = 7)
    (hnone : x.taken = true ∨ effectAt (x.bytes ++ [byteOfBits (x.bits ++ [bit])]) = none) :
    sckRise bit (withTransfer x s) =
      withTransfer { x with clocked := true, bytes := x.bytes ++ [byteOfBits (x.bits ++ [bit])], bits := [] } s := by
  have hlen : (x.bits ++ [bit]).length = 8 := by rw [List.length_append, h, List.length_singleton]
  simp only [sckRise, withTransfer, hlow, Bool.false_eq_true, if_false, hlen, if_true]
  split
  · next htaken heffect =>
    rcases hnone with ht | he
    · exact absurd (ht.symm.trans htaken) nofun
    · exact absurd (he.symm.trans heffect) nofun
  · rfl

/-- A rising edge that ends the last parameter byte of a command with data-out. -/
theorem sckRise_effect (bit : Bool) {x : Transfer} {i : Instr} (h : x.bits.length = 7) (htaken : x.taken = false)
    (heffect : effectAt (x.bytes ++ [byteOfBits (x.bits ++ [bit])]) = some i) :
    sckRise bit (withTransfer x s) =
      enqueue i (withTransfer
        { x with clocked := true, bytes := x.bytes ++ [byteOfBits (x.bits ++ [bit])], bits := [], taken := true } s) := by
  have hlen : (x.bits ++ [bit]).length = 8 := by rw [List.length_append, h, List.length_singleton]
  simp only [sckRise, withTransfer, hlow, Bool.false_eq_true, if_false, hlen, if_true, htaken, heffect]

end Edges

/-! ## A transfer while its command has not taken effect -/

/-- A transfer with no command taken: SDO is low (R162). -/
def untaken (bytes : List Byte) (bits : List Bool) (clocked : Bool) : Transfer :=
  { bytes := bytes, bits := bits, taken := false, clocked := clocked, sdo := false }

theorem csFall_closed {s : State} (hlow : s.resetLow = false) (hspi : s.spi = .closed) :
    csFall s = withTransfer (untaken [] [] false) s := by
  rw [csFall, if_neg (Bool.eq_false_iff.1 hlow), hspi]
  rfl

section Untaken

variable {s : State} (hlow : s.resetLow = false)
include hlow

theorem sckFall_untaken (bytes : List Byte) (bits : List Bool) (c : Bool) :
    sckFall (withTransfer (untaken bytes bits c) s) = withTransfer (untaken bytes bits true) s := by
  rw [sckFall_withTransfer hlow]
  rfl

/-- In either mode a bit inside a byte joins the bits. -/
theorem clockBit_untaken (mode0 : Bool) (bit : Bool) (bytes : List Byte) {bits : List Bool} (c : Bool) (h : bits.length ≠ 7) :
    clockBit mode0 (withTransfer (untaken bytes bits c) s) bit = withTransfer (untaken bytes (bits ++ [bit]) true) s := by
  have hrise : ∀ c, sckRise bit (withTransfer (untaken bytes bits c) s) = withTransfer (untaken bytes (bits ++ [bit]) true) s :=
    fun c => sckRise_bit hlow bit h
  cases mode0
  · exact (congrArg (sckRise bit) (sckFall_untaken hlow bytes bits c)).trans (hrise true)
  · exact (congrArg sckFall (hrise c)).trans (sckFall_untaken hlow bytes _ true)

/-- The first seven bits of a byte. -/
theorem clockBits_untaken (mode0 : Bool) (b : Byte) (bytes : List Byte) (c : Bool) :
    (byteBits b).foldl (clockBit mode0) (withTransfer (untaken bytes [] c) s) =
      clockBit mode0 (withTransfer (untaken bytes ((byteBits b).take 7) true) s) (b.getLsbD 0) := by
  simp only [byteBits, List.map_cons, List.map_nil, List.foldl_cons, List.foldl_nil]
  rw [clockBit_untaken hlow mode0 _ bytes c (by simp)]
  iterate 6 rw [clockBit_untaken hlow mode0 _ bytes true (by simp)]
  rfl

/-- A byte at whose end nothing takes effect joins the bytes. -/
theorem clockByte_untaken (mode0 : Bool) {b : Byte} {bytes : List Byte} (c : Bool) (hnone : effectAt (bytes ++ [b]) = none) :
    (byteBits b).foldl (clockBit mode0) (withTransfer (untaken bytes [] c) s) = withTransfer (untaken (bytes ++ [b]) [] true) s := by
  have hwhole : byteOfBits ((byteBits b).take 7 ++ [b.getLsbD 0]) = b := byteOfBits_byteBits b
  have hrise : ∀ c, sckRise (b.getLsbD 0) (withTransfer (untaken bytes ((byteBits b).take 7) c) s) =
      withTransfer (untaken (bytes ++ [b]) [] true) s := by
    intro c
    rw [sckRise_byte hlow _ rfl (.inr ((congrArg (fun y => effectAt (bytes ++ [y])) hwhole).trans hnone))]
    exact congrArg (fun y => withTransfer (untaken (bytes ++ [y]) [] true) s) hwhole
  rw [clockBits_untaken hlow]
  cases mode0
  · exact (congrArg (sckRise _) (sckFall_untaken hlow bytes _ true)).trans (hrise true)
  · exact (congrArg sckFall (hrise true)).trans (sckFall_untaken hlow _ _ true)

/-- Bytes at whose ends nothing takes effect join the bytes. -/
theorem clockBytes_untaken (mode0 : Bool) (l : List Byte) {bytes : List Byte} (c : Bool)
    (hnone : ∀ p, p <+: l → p ≠ [] → effectAt (bytes ++ p) = none) :
    ∃ c', (l.flatMap byteBits).foldl (clockBit mode0) (withTransfer (untaken bytes [] c) s) =
      withTransfer (untaken (bytes ++ l) [] c') s := by
  induction l generalizing bytes c with
  | nil => exact ⟨c, by rw [List.append_nil]; rfl⟩
  | cons b rest ih =>
    have hfirst := clockByte_untaken hlow mode0 c (hnone [b] ⟨rest, rfl⟩ (List.cons_ne_nil b []))
    have hrest : ∀ p, p <+: rest → p ≠ [] → effectAt (bytes ++ [b] ++ p) = none := fun p hp _ => by
      rw [List.append_assoc]
      exact hnone (b :: p) (List.cons_prefix_cons.2 ⟨rfl, hp⟩) (List.cons_ne_nil b p)
    obtain ⟨c', h'⟩ := ih true hrest
    exact ⟨c', by rw [List.flatMap_cons, List.foldl_append, hfirst, h', List.append_assoc, List.singleton_append]⟩

/-- The byte at whose end a command takes effect: the command joins the waiting ones, the transfer stays open. -/
theorem clockByte_effect (mode0 : Bool) {b : Byte} {bytes : List Byte} {i : Instr} (c : Bool)
    (heffect : effectAt (bytes ++ [b]) = some i) :
    ∃ level, (mode0 = false → level = false) ∧
      (byteBits b).foldl (clockBit mode0) (withTransfer (untaken bytes [] c) s) =
        enqueue i (withTransfer { bytes := bytes ++ [b], bits := [], taken := true, clocked := true, sdo := level } s) := by
  have hwhole : byteOfBits ((byteBits b).take 7 ++ [b.getLsbD 0]) = b := byteOfBits_byteBits b
  have hrise : ∀ c, sckRise (b.getLsbD 0) (withTransfer (untaken bytes ((byteBits b).take 7) c) s) =
      enqueue i (withTransfer { bytes := bytes ++ [b], bits := [], taken := true, clocked := true, sdo := false } s) := by
    intro c
    rw [sckRise_effect hlow _ rfl rfl ((congrArg (fun y => effectAt (bytes ++ [y])) hwhole).trans heffect)]
    exact congrArg (fun y => enqueue i (withTransfer
      { bytes := bytes ++ [y], bits := [], taken := true, clocked := true, sdo := false } s)) hwhole
  rw [clockBits_untaken hlow]
  cases mode0
  · exact ⟨false, fun _ => rfl, (congrArg (sckRise _) (sckFall_untaken hlow bytes _ true)).trans (hrise true)⟩
  · exact ⟨_, nofun, (congrArg sckFall (hrise true)).trans
      (sckFall_withTransfer (s := { s with pending := s.pending ++ [i] }) hlow _)⟩

/-- R163: a whole command with data-out joins the waiting commands at its last rising edge, with the transfer open. -/
theorem clockBytes_effect (mode0 : Bool) {code : Byte} {params : List Byte} {n : Nat} {i : Instr} (hspi : s.spi = .closed)
    (hshape : commandShape code = some (params.length, n)) (hn : n ≠ 0) (hdecode : decodeCommand code params = some i) :
    ∃ level, (mode0 = false → level = false) ∧
      ((code :: params).flatMap byteBits).foldl (clockBit mode0) (csFall s) =
        enqueue i (withTransfer { bytes := code :: params, bits := [], taken := true, clocked := true, sdo := level } s) := by
  obtain ⟨front, last, hsplit⟩ : ∃ front last, code :: params = front ++ [last] :=
    ⟨_, _, (List.dropLast_append_getLast (List.cons_ne_nil code params)).symm⟩
  have hbefore : ∀ p, p <+: front → p ≠ [] → effectAt ([] ++ p) = none := by
    intro p hp hne
    obtain ⟨q, hq⟩ : p <+: code :: params := hsplit ▸ hp.trans (List.prefix_append front [last])
    obtain ⟨code', cut, rfl⟩ := List.exists_cons_of_ne_nil hne
    obtain ⟨rfl, hparams⟩ := List.cons.inj hq
    have hlen : cut.length < params.length := by
      have hle := hp.length_le
      have hall := congrArg List.length hsplit
      simp only [List.length_cons, List.length_append, List.length_nil] at hle hall
      omega
    exact effectAt_before hshape (.inl hlen)
  obtain ⟨c, hfront⟩ := clockBytes_untaken hlow mode0 front false hbefore
  have hlast : effectAt ([] ++ front ++ [last]) = some i := by
    rw [List.nil_append, ← hsplit, effectAt_whole hshape hn, hdecode]
  obtain ⟨level, hlevel, hrun⟩ := clockByte_effect hlow mode0 c hlast
  refine ⟨level, hlevel, ?_⟩
  rw [csFall_closed hlow hspi, hsplit, List.flatMap_append, List.foldl_append, hfront, List.flatMap_singleton, hrun]
  rfl

end Untaken

/-! ## The close of a transfer (R163) -/

theorem csRise_untaken {s : State} {bytes : List Byte} {i : Instr} (c : Bool) (hlow : s.resetLow = false) (hspi : s.spi = .closed)
    (hne : bytes ≠ []) (hdecode : decodeTransfer bytes false = some i) :
    csRise (withTransfer (untaken bytes [] c) s) = { s with pending := s.pending ++ [i] } := by
  have hin : ((!([] : List Bool).isEmpty) || (c && bytes.isEmpty)) = false := by simp [hne]
  simp only [csRise, withTransfer, untaken, hlow, Bool.false_eq_true, if_false, hin, hdecode, enqueue]
  rw [← hspi]

theorem csRise_taken {s : State} {x : Transfer} (i : Instr) (hlow : s.resetLow = false) (hspi : s.spi = .closed)
    (ht : x.taken = true) : csRise (enqueue i (withTransfer x s)) = { s with pending := s.pending ++ [i] } := by
  simp only [csRise, withTransfer, hlow, Bool.false_eq_true, if_false, ht, if_true, enqueue]
  rw [← hspi]

/-- R163: the bits of a command between a fall and a rise of CS# put it behind the waiting commands. -/
theorem csRise_clockBytes {i : Instr} {bytes : List Byte} (mode0 : Bool) {s : State} (hw : i.wellFormed = true)
    (h : transferBytes i = some bytes) (hlow : s.resetLow = false) (hspi : s.spi = .closed) :
    csRise ((bytes.flatMap byteBits).foldl (clockBit mode0) (csFall s)) = { s with pending := s.pending ++ [i] } := by
  have hdecode := decodeTransfer_of_transferBytes hw h
  have hquiet : (∀ p, p <+: bytes → p ≠ [] → effectAt ([] ++ p) = none) → bytes ≠ [] →
      csRise ((bytes.flatMap byteBits).foldl (clockBit mode0) (csFall s)) = { s with pending := s.pending ++ [i] } := by
    intro hnone hne
    obtain ⟨c, hrun⟩ := clockBytes_untaken hlow mode0 bytes false hnone
    rw [csFall_closed hlow hspi, hrun]
    exact csRise_untaken c hlow hspi hne hdecode
  rcases transferBytes_cases hw h with ⟨code, rfl, rfl, hnone⟩ | ⟨code, params, n, rfl, hshape, hcommand⟩
  · refine hquiet (fun p hp hne => ?_) (List.cons_ne_nil code [])
    obtain ⟨code', cut, rfl⟩ := List.exists_cons_of_ne_nil hne
    obtain ⟨rfl, -⟩ := List.cons_prefix_cons.1 hp
    exact effectAt_unknown hnone cut
  · by_cases hn : n = 0
    · refine hquiet (fun p hp hne => ?_) (List.cons_ne_nil code params)
      obtain ⟨code', cut, rfl⟩ := List.exists_cons_of_ne_nil hne
      obtain ⟨rfl, -⟩ := List.cons_prefix_cons.1 hp
      exact effectAt_before hshape (.inr hn)
    · obtain ⟨level, -, hrun⟩ := clockBytes_effect hlow mode0 hspi hshape hn hcommand
      rw [hrun]
      exact csRise_taken i hlow hspi rfl

/-! ## The data-out on SDO (R162) -/

/-- The two edges around a bit after the command has taken effect: one bit more, of the same code. -/
theorem edges_taken {s : State} (hlow : s.resetLow = false) (b : Bool) {x : Transfer} {code : Byte} {rest : List Byte}
    (ht : x.taken = true) (hbits : x.bits.length < 8) (hbytes : x.bytes = code :: rest) :
    ∃ y rest', sckRise b (sckFall (withTransfer x s)) = withTransfer y s ∧ y.taken = true ∧ y.bytes = code :: rest' ∧
      y.bits.length < 8 ∧ 8 * y.bytes.length + y.bits.length = 8 * x.bytes.length + x.bits.length + 1 := by
  rw [sckFall_withTransfer hlow]
  by_cases hlast : x.bits.length = 7
  · refine ⟨_, rest ++ [byteOfBits (x.bits ++ [b])],
      sckRise_byte hlow b (x := { x with clocked := true, sdo := nextSdo x s.dataOut }) hlast (.inl ht), ht,
      congrArg (· ++ [byteOfBits (x.bits ++ [b])]) hbytes, by simp, ?_⟩
    simp only [List.length_append, List.length_singleton, List.length_nil]
    omega
  · refine ⟨_, rest, sckRise_bit hlow b (x := { x with clocked := true, sdo := nextSdo x s.dataOut }) hlast, ht, hbytes, ?_, ?_⟩
    all_goals
      simp only [List.length_append, List.length_singleton]
      omega

/-- Edges after the command has taken effect: the bits count on, the code stays, and the part is as it was. -/
theorem foldl_taken {s : State} (hlow : s.resetLow = false) (ins : List Bool) {x : Transfer} {code : Byte} {rest : List Byte}
    (ht : x.taken = true) (hbits : x.bits.length < 8) (hbytes : x.bytes = code :: rest) :
    ∃ y rest', ins.foldl (fun t b => sckRise b (sckFall t)) (withTransfer x s) = withTransfer y s ∧ y.taken = true ∧
      y.bytes = code :: rest' ∧ y.bits.length < 8 ∧
      8 * y.bytes.length + y.bits.length = 8 * x.bytes.length + x.bits.length + ins.length := by
  induction ins generalizing x rest with
  | nil => exact ⟨x, rest, rfl, ht, hbytes, hbits, rfl⟩
  | cons b ins ih =>
    obtain ⟨z, rest₁, hedges, htz, hbz, hltz, hone⟩ := edges_taken hlow b ht hbits hbytes
    obtain ⟨y, rest', hrun, hty, hby, hlt, hcount⟩ := ih htz hltz hbz
    refine ⟨y, rest', (congrArg (ins.foldl _) hedges).trans hrun, hty, hby, hlt, ?_⟩
    rw [List.length_cons]
    omega

theorem sdo_withTransfer {s : State} (hlow : s.resetLow = false) (x : Transfer) : sdo (withTransfer x s) = some x.sdo := by
  simp only [sdo, withTransfer, hlow, Bool.false_eq_true, if_false]

/-- R162: after k edges SDO shows the data-out's bit k, most significant bit of a byte first, and 0 after the last byte. -/
theorem sdo_dataOut {s : State} (hlow : s.resetLow = false) (ins : List Bool) {x : Transfer} {code : Byte} {params : List Byte}
    {n : Nat} (hshape : commandShape code = some (params.length, n)) (hbytes : x.bytes = code :: params) (hbits : x.bits = [])
    (ht : x.taken = true) :
    sdo (sckFall (ins.foldl (fun t b => sckRise b (sckFall t)) (withTransfer x s))) =
      some ((s.dataOut.getD (ins.length / 8) 0#8).getLsbD (7 - ins.length % 8)) := by
  obtain ⟨y, rest, hrun, hty, hby, hlt, hcount⟩ := foldl_taken hlow ins ht (by simp [hbits]) hbytes
  rw [hrun, sckFall_withTransfer hlow, sdo_withTransfer hlow]
  have hparams : transferParams y.bytes = params.length := by simp only [hby, transferParams, hshape]
  have hx : x.bytes.length = 1 + params.length ∧ x.bits.length = 0 := by
    rw [hbytes, hbits, List.length_cons]
    exact ⟨Nat.add_comm _ _, rfl⟩
  have hbyte : y.bytes.length - (1 + params.length) = ins.length / 8 := by omega
  have hbit : y.bits.length = ins.length % 8 := by omega
  simp only [nextSdo, hty, Bool.true_and, hparams, hbyte, hbit]

/-- R162: a rising edge of SCK leaves SDO. -/
theorem sdo_sckRise {s : State} (hlow : s.resetLow = false) (bit : Bool) (x : Transfer) :
    sdo (sckRise bit (withTransfer x s)) = some x.sdo := by
  by_cases h : x.bits.length = 7
  · by_cases hnone : x.taken = true ∨ effectAt (x.bytes ++ [byteOfBits (x.bits ++ [bit])]) = none
    · rw [sckRise_byte hlow bit h hnone]
      exact sdo_withTransfer hlow _
    · obtain ⟨htaken, heffect⟩ := not_or.1 hnone
      obtain ⟨i, hi⟩ := Option.ne_none_iff_exists'.1 heffect
      rw [sckRise_effect hlow bit h (Bool.eq_false_iff.2 htaken) hi]
      exact sdo_withTransfer (s := { s with pending := s.pending ++ [i] }) hlow _
  · rw [sckRise_bit hlow bit h]
    exact sdo_withTransfer hlow _

/-- R162, R165: with CS# high or RESET# low SDO is released and SCK is ignored. -/
theorem sck_ignored {s : State} (h : s.resetLow = true ∨ s.spi = .closed) (bit : Bool) :
    sdo s = none ∧ sckRise bit s = s ∧ sckFall s = s := by
  by_cases hlow : s.resetLow = true
  · exact ⟨if_pos hlow, if_pos hlow, if_pos hlow⟩
  · have hspi : s.spi = .closed := h.resolve_left hlow
    simp only [sdo, sckRise, sckFall, hlow, Bool.false_eq_true, if_false, hspi, and_self]

/-- An open transfer is the part with that transfer. -/
theorem eq_withTransfer {s : State} {x : Transfer} (h : s.spi = .shifting x) : s = withTransfer x s := by
  rw [withTransfer, ← h]

/-- Settles O52. -/
theorem transferRoundTrip : Obligations.TransferRoundTrip := by
  refine ⟨fun _ _ => decodeTransfer_of_transferBytes, ?cut, fun _ _ mode0 _ => csRise_clockBytes mode0, ?effect, ?data, ?level,
    fun bit _ h => sck_ignored h bit, ?opened, ?answered⟩
  case cut =>
    intro i code params cut hu h hcut hne inside
    obtain ⟨n, hshape⟩ := commandShape_of_transferBytes hu h
    exact decodeTransfer_cut hshape hcut hne inside
  case effect =>
    intro i code params n s hw h hshape hn hlow hspi
    have hu : ∀ c, i ≠ .unknown c := by
      rintro c rfl
      obtain ⟨rfl, -⟩ := List.cons.inj (Option.some.inj h)
      have hnone : commandShape c = none := Option.isNone_iff_eq_none.1 hw
      exact absurd (hnone.symm.trans hshape) nofun
    obtain ⟨level, hlevel, hrun⟩ :=
      clockBytes_effect hlow false hspi hshape hn (decodeCommand_of_transferBytes hw hu h)
    rw [hlevel rfl] at hrun
    exact hrun
  case data =>
    intro code params n x ins s hshape hlow hspi hbytes hbits ht
    rw [eq_withTransfer hspi]
    exact sdo_dataOut hlow ins hshape hbytes hbits ht
  case level =>
    intro b x s hlow hspi
    rw [eq_withTransfer hspi]
    refine ⟨sdo_withTransfer hlow x, (sdo_sckRise hlow b x).trans (sdo_withTransfer hlow x).symm, fun ht => ?_⟩
    rw [sckFall_withTransfer hlow, sdo_withTransfer hlow, nextSdo, ht, Bool.false_and]
  case opened =>
    intro s hlow hspi
    rw [csFall_closed hlow hspi]
    exact sdo_withTransfer hlow _
  case answered =>
    intro code r slot data x s hspi
    simp only [answer, hspi, reduceCtorEq, if_false, and_self]

end Sys2Proof.Machine
